-- ==== Sys2Proof/Word.lean ====
section
/-! DEFINITION. The two word types of the machine: bytes and 16-bit words (00_scope.md R8). -/

namespace Sys2Proof

/-- The unit of addressing and the width of a register (R8, R80). -/
abbrev Byte := BitVec 8

/-- The width of a pair, of `sp`, of `pc` and of an address (R8). -/
abbrev Word := BitVec 16

end Sys2Proof
end

