-- ==== Sys2Proof/Machine/Bits.lean ====
section
/-! DEFINITION. Bit fields, extension and byte order (00_scope.md R9, R11; 20_memory.md R85). -/

namespace Sys2Proof

/-- The high byte `v[15:8]` of a word. -/
def hi (v : Word) : Byte := v.extractLsb' 8 8

/-- The low byte `v[7:0]` of a word. -/
def lo (v : Word) : Byte := v.extractLsb' 0 8

/-- The concatenation of a high and a low byte (R9; the pairs of 10_state.md R30 and the immediates of 30_encoding.md R177). -/
def word (h l : Byte) : Word := h ++ l

/-- `sext_16` (00_scope.md R11). -/
def sext16 (e : Byte) : Word := e.signExtend 16

/-- `zext_16` (00_scope.md R11). -/
def zext16 (e : Byte) : Word := e.setWidth 16

/-- A Bool as one bit. -/
def bit (b : Bool) : BitVec 1 := BitVec.ofBool b

/-- The bytes of a number, least significant first: how an instruction's words lie in memory (R85). -/
def bytesOf : Nat → Nat → List Byte
  | 0, _ => []
  | n + 1, w => BitVec.ofNat 8 w :: bytesOf n (w / 256)

end Sys2Proof
end

