-- ==== Sys2Proof/Config.lean ====
section
/-! DEFINITION. What a launch fixes (00_scope.md R7) and the free values: constants without a body, which stand for
every value the spec leaves open. -/

namespace Sys2Proof

/-- `P_MODE`: which console variant the block behaves as (R7; 62_boundary_units.md R571). -/
inductive ConsoleMode where
  | mono
  | color
deriving DecidableEq, Repr

/-- The memories whose content at power-on the spec leaves unspecified (10_state.md R77; 93_implementation_defined.md U4),
the ROM image and the external RAM, whose content the host supplies. -/
inductive Store where
  | rom | xram | vram | wram | oam | hram | wave | bgpal | obpal
deriving DecidableEq, Repr

/-- The implementation parameters of 00_scope.md R7 that a step reads. They stand in `State.cfg`, so that every
statement about all states is a statement about all parameters (notes/assumptions/4.md). `P_RESET` is the argument of
`State.resetOf`, `JOY` and the cartridge port are fields of State. -/
structure Params where
  /-- `P_MODE`. -/
  mode : ConsoleMode
  /-- `P_FILL`: what write-only registers, unmapped addresses and unused bits read as. -/
  fill : Byte
  /-- `P_IRQ_TAIL_CYCLES` = 1 when true, 0 when false (60_exceptions.md R409). -/
  irqTail : Bool
  /-- `P_SAMPLE_INTERVAL`, in ticks; positive (61_timer_and_sound.md R536). -/
  sampleInterval : Nat
  /-- `P_SAMPLE_BLOCK`, pairs of one published block; positive (R538). -/
  sampleBlock : Nat
deriving DecidableEq, Repr

/-- FREE VALUE: the byte that a cell of a memory holds before anything writes it (10_state.md R77, U4 "any value").
DEDUCED, safe: no proof can see it (notes/assumptions/7.md). -/
opaque Config.powerOnByte : Store → Nat → Byte

/-- FREE VALUE: the n-th value the spec does not state, used for a clock register that was written out of its range
(62_boundary_units.md R565; notes/assumptions/14.md). -/
opaque Config.freeByte : Nat → Byte

end Sys2Proof
end

