-- ==== Sys2Proof/Machine/Memory.lean ====
section
/-! DEFINITION. A byte memory as plain data: a list of (address, byte) cells in one canonical form. -/

namespace Sys2Proof.Machine

/-- The cells something has written, by address. An address that is not listed holds NO value (10_state.md R77), so no
listed byte can equal what an unlisted address holds. -/
abbrev Memory := List Host.Cell

/-- The canonical form: addresses strictly rising. -/
abbrev Memory.wf (m : Memory) : Prop := m.Pairwise (fun x y => x.1 < y.1)

/-- The byte at an address, or none where nothing has written. -/
def Memory.get? : Memory → Nat → Option Byte
  | [], _ => none
  | (k, v) :: m, a => if k = a then some v else Memory.get? m a

/-- Store a byte, keeping the canonical form. -/
def Memory.set : Memory → Nat → Byte → Memory
  | [], a, v => [(a, v)]
  | (k, w) :: m, a, v =>
    if a < k then (a, v) :: (k, w) :: m
    else if a = k then (a, v) :: m
    else (k, w) :: Memory.set m a v

/-- The memory that holds a list of bytes from an address on: an image the host supplies. -/
def Memory.ofBytes : Nat → List Byte → Memory
  | _, [] => []
  | a, v :: vs => (a, v) :: Memory.ofBytes (a + 1) vs

/-- Store a list of bytes from an address on. -/
def Memory.overlay : Memory → Nat → List Byte → Memory
  | m, _, [] => m
  | m, a, v :: vs => Memory.overlay (m.set a v) (a + 1) vs

end Sys2Proof.Machine
end

