-- ==== Sys2Proof/Machine/State.lean ====
section
/-! DEFINITION. The state of the machine as plain data: everything 10_state.md gives the block, and the state of the two
ports whose contract 62_boundary_units.md gives. INVENTORY.md lists each field with its rule. -/

namespace Sys2Proof.Machine

/-! ## The processor -/

/-- The four flags of F (10_state.md R34). F[3:0] has no storage: it reads 0 and cannot be set. -/
structure Flags where
  z : Bool
  n : Bool
  h : Bool
  c : Bool
deriving DecidableEq, Repr

/-- The execution status (R39). -/
inductive Status where
  | active
  | halted
  | stopped
  | paused
deriving DecidableEq, Repr

/-- The speed mode (R40). -/
inductive Speed where
  | normal
  | double
deriving DecidableEq, Repr

/-- A fatal record `(kind, info)` (R41; 60_exceptions.md R430). -/
inductive Fatal where
  /-- An opcode with no decode entry was fetched from `addr` (46_system.md R376). -/
  | unimplementedOpcode (op : Byte) (addr : Word)
  /-- An address outside every region (20_memory.md R83). Nothing raises it: the region function is total. -/
  | addressInvariant (addr : Word)
  /-- The launch met an unknown controller code (62_boundary_units.md R572). -/
  | unsupportedCartridge (code : Byte)
  /-- The launch met an image that is too short or has a RAM size code above 5 (R573). -/
  | malformedRom (length : Nat)
deriving DecidableEq, Repr

/-- The instruction processor: registers (R30 to R36), control state (R37 to R40), the speed switch (R47) and the sticky
fault (R41). The pairs BC, DE, HL are not separate storage (R30). -/
structure Cpu where
  a : Byte
  flags : Flags
  b : Byte
  c : Byte
  d : Byte
  e : Byte
  h : Byte
  l : Byte
  sp : Word
  pc : Word
  /-- The interrupt master enable (R37). -/
  ime : Bool
  /-- The deferred set of the master enable (R38). -/
  eiDelay : Bool
  status : Status
  speed : Speed
  /-- KEY1 bit 0 (R47). -/
  speedArmed : Bool
  fault : Option Fatal
deriving DecidableEq, Repr

/-! ## Interrupt controller, joypad, serial, timer -/

/-- The five interrupt lines in priority order (R42). -/
inductive Line where
  | vblank
  | stat
  | timer
  | serial
  | joypad
deriving DecidableEq, Repr

/-- IF[4:0] (R42) and IE[7:0] (R43). -/
structure Irq where
  ifr : BitVec 5
  ie : Byte
deriving DecidableEq, Repr

/-- The joypad register and its input (R44). -/
structure Joypad where
  /-- The host's button state JOY, bit set = pressed. -/
  joy : Byte
  /-- p1_sel[5:4]. -/
  sel : BitVec 2
  /-- joy_prev[3:0]. -/
  prev : BitVec 4
deriving DecidableEq, Repr

/-- SB and SC, plain storage (R45). -/
structure Serial where
  sb : Byte
  sc : Byte
deriving DecidableEq, Repr

/-- The timer (R46). -/
structure Timer where
  div16 : Word
  tima : Byte
  tma : Byte
  tac : BitVec 3
  reloadPending : Bool
deriving DecidableEq, Repr

/-! ## Memories and registers of the bus -/

/-- The memories the bus owns (R48, R56). WRAM is keyed by bank·4096 + offset and VRAM by bank·8192 + offset. -/
structure Ram where
  wram : Memory
  vram : Memory
  oam : Memory
  hram : Memory
  wave : Memory
  bgpal : Memory
  obpal : Memory
deriving DecidableEq, Repr

/-- A palette index register (R56). -/
structure PaletteIndex where
  idx : BitVec 6
  autoinc : Bool
deriving DecidableEq, Repr

/-- Bank selects (R49, R50), the latched status line (R54), the DMA register (R55), the palette indices (R56). -/
structure BusRegs where
  svbk : BitVec 3
  vbk : BitVec 1
  statLine : Bool
  dmaReg : Byte
  bcps : PaletteIndex
  ocps : PaletteIndex
deriving DecidableEq, Repr

/-- HDMA1 to HDMA4 (R57) and the HBlank-gated transfer (R58). -/
structure Hdma where
  h1 : Byte
  h2 : Byte
  h3 : Byte
  h4 : Byte
  active : Bool
  remaining : BitVec 7
  src : Word
  dst : Word
deriving DecidableEq, Repr

/-! ## The sound unit -/

/-- The backing bytes of the sound registers (R59 to R63). -/
structure SoundRegs where
  nr10 : Byte
  nr11 : Byte
  nr12 : Byte
  nr13 : Byte
  nr14 : Byte
  nr21 : Byte
  nr22 : Byte
  nr23 : Byte
  nr24 : Byte
  nr30 : Byte
  nr31 : Byte
  nr32 : Byte
  nr33 : Byte
  nr34 : Byte
  nr41 : Byte
  nr42 : Byte
  nr43 : Byte
  nr44 : Byte
  nr50 : Byte
  nr51 : Byte
deriving DecidableEq, Repr

/-- The envelope direction and period that a channel uses: those of NRk2 at its last trigger (61_timer_and_sound.md R483;
notes/assumptions/21.md). -/
structure Envelope where
  /-- `env_dir`: true is increase. -/
  up : Bool
  period : BitVec 3
deriving DecidableEq, Repr

/-- A pulse channel, k = 1 or 2 (R64 to R66). -/
structure Pulse where
  enabled : Bool
  length : Nat
  volume : BitVec 4
  envTimer : BitVec 4
  env : Envelope
  freqTimer : Nat
  dutyPos : BitVec 3
deriving DecidableEq, Repr

/-- The programmable-wave channel, k = 3 (R64, R66). -/
structure Wave where
  enabled : Bool
  length : Nat
  freqTimer : Nat
  wavePos : BitVec 5
deriving DecidableEq, Repr

/-- The noise channel, k = 4 (R64 to R66). -/
structure Noise where
  enabled : Bool
  length : Nat
  volume : BitVec 4
  envTimer : BitVec 4
  env : Envelope
  freqTimer : Nat
  lfsr : BitVec 15
deriving DecidableEq, Repr

/-- The frequency sweep of channel 1 (R67). -/
structure Sweep where
  shadow : BitVec 11
  enabled : Bool
  timer : BitVec 4
deriving DecidableEq, Repr

/-- The output sample accumulator (R69) and the trace of published blocks, oldest first (61_timer_and_sound.md R538). -/
structure SampleOut where
  counter : Nat
  block : List (Nat × Nat)
  published : List (List (Nat × Nat))
deriving DecidableEq, Repr

/-- The sound unit (R59 to R69). -/
structure Sound where
  regs : SoundRegs
  /-- snd_power, NR52 bit 7. -/
  power : Bool
  ch1 : Pulse
  ch2 : Pulse
  ch3 : Wave
  ch4 : Noise
  sweep : Sweep
  fsStep : BitVec 3
  out : SampleOut
deriving DecidableEq, Repr

/-! ## The pixel port -/

/-- The pixel unit's mode (62_boundary_units.md R551). -/
inductive PpuMode where
  | hblank
  | vblank
  | oamScan
  | pixelTransfer
deriving DecidableEq, Repr

/-- The timing state of the pixel unit (R551) and the LCD registers it keeps (10_state.md R52, R53). -/
structure Ppu where
  mode : PpuMode
  dot : Nat
  ly : Nat
  lcdc : Byte
  /-- STAT[6:3]. -/
  statEn : BitVec 4
  scy : Byte
  scx : Byte
  lyc : Byte
  bgp : Byte
  obp0 : Byte
  obp1 : Byte
  wy : Byte
  wx : Byte
deriving DecidableEq, Repr

/-! ## The cartridge port -/

/-- The closed set of bank controllers (R560). -/
inductive Controller where
  | romOnly
  | controller1
  | controller3
  | controller5
deriving DecidableEq, Repr

/-- The live clock registers of Controller-3 and their sub-second accumulator (R561, R565). -/
structure Clock where
  seconds : Byte
  minutes : Byte
  hours : Byte
  day : BitVec 9
  halt : Bool
  carry : Bool
  subsec : Nat
deriving DecidableEq, Repr

/-- The registers of the bank controllers; which of them acts depends on the variant (R561, R563, R565, R566). -/
structure BankRegs where
  ramEnable : Bool
  /-- Controller-1: the 5-bit register. -/
  bankLo : BitVec 5
  /-- Controller-1: the 2-bit register. -/
  bankHi : BitVec 2
  /-- Controller-1: the banking-mode flag. -/
  bankMode : Bool
  /-- Controller-3: the 7-bit ROM bank register. -/
  romBank3 : BitVec 7
  /-- Controller-3: what selects a RAM bank or a clock register. -/
  sel : Byte
  /-- Controller-5: the 9-bit ROM bank register. -/
  romBank5 : BitVec 9
  /-- Controller-5: the 4-bit RAM bank register. -/
  ramBank5 : BitVec 4
deriving DecidableEq, Repr

/-- The cartridge and its bank controller (R561 to R566, R570, R572). `xram` is keyed by bank·8192 + offset. -/
structure Cart extends BankRegs where
  kind : Controller
  romBanks : Nat
  ramBanks : Nat
  hasClock : Bool
  battery : Bool
  clock : Clock
  rom : Memory
  xram : Memory
deriving DecidableEq, Repr

/-! ## The whole -/

/-- The state of the machine. `cycles` and `freeCount` are the model's own (notes/assumptions/13.md, 14.md). -/
structure State where
  cpu : Cpu
  irq : Irq
  joypad : Joypad
  serial : Serial
  timer : Timer
  ram : Ram
  bus : BusRegs
  hdma : Hdma
  sound : Sound
  ppu : Ppu
  cart : Cart
  /-- The parameters of 00_scope.md R7; no step changes them. -/
  cfg : Params
  /-- Ghost counter of `Cycle()` calls (60_exceptions.md R402). -/
  cycles : Nat
  /-- The index of the next free value (`Config.freeByte`). -/
  freeCount : Nat
deriving DecidableEq, Repr

/-- How the machine stops. -/
inductive Fault where
  /-- Answered by `step`, and by nothing else, in a state whose sticky `fault` is set: there is no step from it
  (60_exceptions.md R431). SAFE: it is the spec's own end of a run. -/
  | fatal (f : Fatal)
deriving DecidableEq, Repr

/-- Why an instruction has no meaning. -/
inductive Refusal where
  /-- Answered only by an arm of `exec` whose instruction has no meaning yet; no arm does. SAFE: the model stops. -/
  | notModelled (mnemonic : String)
deriving DecidableEq, Repr

/-- What an instruction and a step answer. -/
abbrev Result := Host.Outcome State Fault Refusal

/-! ## Reset -/

/-- The envelope in use before any trigger: that of an NRk2 of 0x00 (notes/assumptions/21.md). -/
def Envelope.reset : Envelope where
  up := false
  period := 0

/-- The sound registers and channels of the recommended profile (10_state.md R76). -/
def Sound.reset : Sound where
  regs := {
    nr10 := 0x00, nr11 := 0x00, nr12 := 0x00, nr13 := 0x00, nr14 := 0x00
    nr21 := 0x00, nr22 := 0x00, nr23 := 0x00, nr24 := 0x00
    nr30 := 0x00, nr31 := 0x00, nr32 := 0x00, nr33 := 0x00, nr34 := 0x00
    nr41 := 0x00, nr42 := 0x00, nr43 := 0x00, nr44 := 0x00
    nr50 := 0x77, nr51 := 0xF3 }
  power := true
  ch1 := { enabled := false, length := 0, volume := 0, envTimer := 0, env := Envelope.reset, freqTimer := 0, dutyPos := 0 }
  ch2 := { enabled := false, length := 0, volume := 0, envTimer := 0, env := Envelope.reset, freqTimer := 0, dutyPos := 0 }
  ch3 := { enabled := false, length := 0, freqTimer := 0, wavePos := 0 }
  ch4 := { enabled := false, length := 0, volume := 0, envTimer := 0, env := Envelope.reset, freqTimer := 0, lfsr := 0x7FFF }
  sweep := { shadow := 0, enabled := false, timer := 0 }
  fsStep := 0
  out := { counter := 0, block := [], published := [] }

/-- The pixel port at reset (70_reset_and_hazards.md R604). OBP0 and OBP1 are unspecified in Color; the model names 0xFF in
both modes (notes/assumptions/6.md). -/
def Ppu.reset : Ppu where
  mode := .oamScan
  dot := 0
  ly := 0
  lcdc := 0x91
  statEn := 0
  scy := 0x00
  scx := 0x00
  lyc := 0x00
  bgp := 0xFC
  obp0 := 0xFF
  obp1 := 0xFF
  wy := 0x00
  wx := 0x00

/-- A clock at zero; the host supplies the clock at a launch (R604; notes/assumptions/10.md). -/
def Clock.zero : Clock where
  seconds := 0
  minutes := 0
  hours := 0
  day := 0
  halt := false
  carry := false
  subsec := 0

/-- The bank registers at reset: RAM disabled, every register 0 but Controller-5's `rom_bank`, which is 1 (R604). -/
def BankRegs.reset : BankRegs where
  ramEnable := false
  bankLo := 0
  bankHi := 0
  bankMode := false
  romBank3 := 0
  sel := 0
  romBank5 := 1
  ramBank5 := 0

/-- A cartridge port with the bank registers of R604 around the parts that the launch supplies. -/
def Cart.reset (kind : Controller) (romBanks ramBanks : Nat) (hasClock battery : Bool) (clock : Clock)
    (rom xram : Memory) : Cart where
  toBankRegs := BankRegs.reset
  kind := kind
  romBanks := romBanks
  ramBanks := ramBanks
  hasClock := hasClock
  battery := battery
  clock := clock
  rom := rom
  xram := xram

/-- The processor at power-on: the Mono and the Color column of R76. -/
def Cpu.reset : ConsoleMode → Cpu
  | .mono => {
      a := 0x01, flags := { z := true, n := false, h := true, c := true }
      b := 0x00, c := 0x13, d := 0x00, e := 0xD8, h := 0x01, l := 0x4D
      sp := 0xFFFE, pc := 0x0100, ime := false, eiDelay := false
      status := .active, speed := .normal, speedArmed := false, fault := none }
  | .color => {
      a := 0x11, flags := { z := true, n := false, h := false, c := false }
      b := 0x00, c := 0x00, d := 0xFF, e := 0x56, h := 0x00, l := 0x0D
      sp := 0xFFFE, pc := 0x0100, ime := false, eiDelay := false
      status := .active, speed := .normal, speedArmed := false, fault := none }

/-- `P_RESET` (00_scope.md R7; 70_reset_and_hazards.md R600): the power-on value of every register and memory cell of the block,
and of the ports' registers (R604; U5 of 93_implementation_defined.md). -/
structure Profile where
  cpu : Cpu
  irq : Irq
  /-- p1_sel. -/
  joySel : BitVec 2
  /-- joy_prev. -/
  joyPrev : BitVec 4
  serial : Serial
  timer : Timer
  ram : Ram
  bus : BusRegs
  hdma : Hdma
  sound : Sound
  ppu : Ppu
  banks : BankRegs
deriving DecidableEq, Repr

/-- The recommended profile, by the Mono or the Color column of R76, and R604 for the ports. It gives no memory cell a value
(R77, R605). -/
def Profile.recommended (mode : ConsoleMode) : Profile where
  cpu := Cpu.reset mode
  irq := { ifr := 0b00001, ie := 0x00 }
  joySel := 0b00
  joyPrev := 0b1111
  serial := { sb := 0x00, sc := 0x00 }
  timer := {
    div16 := match mode with | .mono => 0xABCC | .color => 0x1EA0
    tima := 0x00, tma := 0x00, tac := 0, reloadPending := false }
  ram := { wram := [], vram := [], oam := [], hram := [], wave := [], bgpal := [], obpal := [] }
  bus := {
    svbk := 0, vbk := 0, statLine := false
    dmaReg := match mode with | .mono => 0xFF | .color => 0x00
    bcps := { idx := 0, autoinc := false }
    ocps := { idx := 0, autoinc := false } }
  hdma := {
    h1 := 0xFF, h2 := 0xFF, h3 := 0xFF, h4 := 0xFF
    active := false, remaining := 0x7F, src := 0x0000, dst := 0x0000 }
  sound := Sound.reset
  ppu := Ppu.reset
  banks := BankRegs.reset

/-- The state at power-on for a reset profile, parameters and a cartridge, with every button released (R600; 00_scope.md
R7). -/
def State.resetOf (p : Profile) (cfg : Params) (cart : Cart) : State where
  cpu := p.cpu
  irq := p.irq
  joypad := { joy := 0x00, sel := p.joySel, prev := p.joyPrev }
  serial := p.serial
  timer := p.timer
  ram := p.ram
  bus := p.bus
  hdma := p.hdma
  sound := p.sound
  ppu := p.ppu
  cart := { cart with toBankRegs := p.banks }
  cfg := cfg
  cycles := 0
  freeCount := 0

/-- The parameters of the reset state: the spec's defaults where it gives one; the mode, the sample interval and the block
size are DESIGN CHOICE, unsafe (notes/assumptions/4.md). -/
def Params.ofReset : Params where
  mode := .mono
  fill := 0xFF
  irqTail := true
  sampleInterval := 95
  sampleBlock := 512

/-- The cartridge port of the reset state: ROM-only, the smallest declared size, no external RAM, no image
(notes/assumptions/8.md). -/
def Cart.ofReset : Cart := Cart.reset .romOnly 2 0 false false Clock.zero [] []

/-- The machine right after reset, with no program: a program is loaded from outside (notes/assumptions/8.md). -/
def State.reset : State := State.resetOf (Profile.recommended .mono) Params.ofReset Cart.ofReset

end Sys2Proof.Machine
end

