-- ==== Sys2Proof/Syntax.lean ====
section
/-! DEFINITION. The instruction set as syntax: the operand codes of 30_encoding.md R172 to R176 and one constructor per row
of spec/opcode_table.json (256 primary opcodes, then 256 extended opcodes). The prefix `M` in a constructor's name marks a
memory operand: `ldAMHL` is LD A,(HL). -/

namespace Sys2Proof

/-- The seven 8-bit registers an instruction can name, codes 0 to 5 and 7 of R173 (00_scope.md R10). -/
inductive Reg8 where
  | b | c | d | e | h | l | a
deriving DecidableEq, Repr

/-- The 8-bit operand field `r` of R173: a register, or (code 6) the byte in memory at address HL. -/
inductive Opd8 where
  | reg (r : Reg8)
  | atHL
deriving DecidableEq, Repr

/-- The pair field `rr` of R174 for LD rr,nn; INC rr; DEC rr; ADD HL,rr. -/
inductive Pair where
  | bc | de | hl | sp
deriving DecidableEq, Repr

/-- The pair field of R174 for PUSH and POP. -/
inductive StackPair where
  | bc | de | hl | af
deriving DecidableEq, Repr

/-- The condition field `cc` of R175. -/
inductive Cond where
  | nz | z | nc | c
deriving DecidableEq, Repr

/-- The arithmetic and logic operation field of R176. -/
inductive AluOp where
  | add | adc | sub | sbc | and | xor | or | cp
deriving DecidableEq, Repr

/-- The rotate and shift operation field of R176. -/
inductive RotOp where
  | rlc | rrc | rl | rr | sla | sra | swap | srl
deriving DecidableEq, Repr

/-- A three-bit number carried by an opcode: the bit number of BIT, RES, SET, or the restart number of RST (R176). -/
inductive Oct where
  | n0 | n1 | n2 | n3 | n4 | n5 | n6 | n7
deriving DecidableEq, Repr

/-- The instructions: one constructor per row of the opcode table; the rows with an immediate operand first, then the
others, each in the table's order. An immediate operand is a field: `n` unsigned byte, `nn` 16-bit, `e` signed byte kept as
its eight bits (R177). -/
inductive Instr where
  | ldBCnn (nn : Word)
  | ldBn (n : Byte)
  | ldMnnSP (nn : Word)
  | ldCn (n : Byte)
  | ldDEnn (nn : Word)
  | ldDn (n : Byte)
  | jre (e : Byte)
  | ldEn (n : Byte)
  | jrNZe (e : Byte)
  | ldHLnn (nn : Word)
  | ldHn (n : Byte)
  | jrZe (e : Byte)
  | ldLn (n : Byte)
  | jrNCe (e : Byte)
  | ldSPnn (nn : Word)
  | ldMHLn (n : Byte)
  | jrCe (e : Byte)
  | ldAn (n : Byte)
  | jpNZnn (nn : Word)
  | jpnn (nn : Word)
  | callNZnn (nn : Word)
  | addAn (n : Byte)
  | jpZnn (nn : Word)
  | prefixCB (op2 : Byte)
  | callZnn (nn : Word)
  | callnn (nn : Word)
  | adcAn (n : Byte)
  | jpNCnn (nn : Word)
  | callNCnn (nn : Word)
  | subn (n : Byte)
  | jpCnn (nn : Word)
  | callCnn (nn : Word)
  | sbcAn (n : Byte)
  | ldhMnA (n : Byte)
  | andn (n : Byte)
  | addSPe (e : Byte)
  | ldMnnA (nn : Word)
  | xorn (n : Byte)
  | ldhAMn (n : Byte)
  | orn (n : Byte)
  | ldHLSPe (e : Byte)
  | ldAMnn (nn : Word)
  | cpn (n : Byte)
  | nop
  | ldMBCA
  | incBC
  | incB
  | decB
  | rlca
  | addHLBC
  | ldAMBC
  | decBC
  | incC
  | decC
  | rrca
  | stop
  | ldMDEA
  | incDE
  | incD
  | decD
  | rla
  | addHLDE
  | ldAMDE
  | decDE
  | incE
  | decE
  | rra
  | ldMHLIncA
  | incHL
  | incH
  | decH
  | daa
  | addHLHL
  | ldAMHLInc
  | decHL
  | incL
  | decL
  | cpl
  | ldMHLDecA
  | incSP
  | incMHL
  | decMHL
  | scf
  | addHLSP
  | ldAMHLDec
  | decSP
  | incA
  | decA
  | ccf
  | ldBB
  | ldBC
  | ldBD
  | ldBE
  | ldBH
  | ldBL
  | ldBMHL
  | ldBA
  | ldCB
  | ldCC
  | ldCD
  | ldCE
  | ldCH
  | ldCL
  | ldCMHL
  | ldCA
  | ldDB
  | ldDC
  | ldDD
  | ldDE
  | ldDH
  | ldDL
  | ldDMHL
  | ldDA
  | ldEB
  | ldEC
  | ldED
  | ldEE
  | ldEH
  | ldEL
  | ldEMHL
  | ldEA
  | ldHB
  | ldHC
  | ldHD
  | ldHE
  | ldHH
  | ldHL
  | ldHMHL
  | ldHA
  | ldLB
  | ldLC
  | ldLD
  | ldLE
  | ldLH
  | ldLL
  | ldLMHL
  | ldLA
  | ldMHLB
  | ldMHLC
  | ldMHLD
  | ldMHLE
  | ldMHLH
  | ldMHLL
  | halt
  | ldMHLA
  | ldAB
  | ldAC
  | ldAD
  | ldAE
  | ldAH
  | ldAL
  | ldAMHL
  | ldAA
  | addAB
  | addAC
  | addAD
  | addAE
  | addAH
  | addAL
  | addAMHL
  | addAA
  | adcAB
  | adcAC
  | adcAD
  | adcAE
  | adcAH
  | adcAL
  | adcAMHL
  | adcAA
  | subB
  | subC
  | subD
  | subE
  | subH
  | subL
  | subMHL
  | subA
  | sbcAB
  | sbcAC
  | sbcAD
  | sbcAE
  | sbcAH
  | sbcAL
  | sbcAMHL
  | sbcAA
  | andB
  | andC
  | andD
  | andE
  | andH
  | andL
  | andMHL
  | andA
  | xorB
  | xorC
  | xorD
  | xorE
  | xorH
  | xorL
  | xorMHL
  | xorA
  | orB
  | orC
  | orD
  | orE
  | orH
  | orL
  | orMHL
  | orA
  | cpB
  | cpC
  | cpD
  | cpE
  | cpH
  | cpL
  | cpMHL
  | cpA
  | retNZ
  | popBC
  | pushBC
  | rst00
  | retZ
  | ret
  | rst08
  | retNC
  | popDE
  | illegalD3
  | pushDE
  | rst10
  | retC
  | reti
  | illegalDB
  | illegalDD
  | rst18
  | popHL
  | ldhMCA
  | illegalE3
  | illegalE4
  | pushHL
  | rst20
  | jpHL
  | illegalEB
  | illegalEC
  | illegalED
  | rst28
  | popAF
  | ldhAMC
  | di
  | illegalF4
  | pushAF
  | rst30
  | ldSPHL
  | ei
  | illegalFC
  | illegalFD
  | rst38
  | rlcB
  | rlcC
  | rlcD
  | rlcE
  | rlcH
  | rlcL
  | rlcMHL
  | rlcA
  | rrcB
  | rrcC
  | rrcD
  | rrcE
  | rrcH
  | rrcL
  | rrcMHL
  | rrcA
  | rlB
  | rlC
  | rlD
  | rlE
  | rlH
  | rlL
  | rlMHL
  | rlA
  | rrB
  | rrC
  | rrD
  | rrE
  | rrH
  | rrL
  | rrMHL
  | rrA
  | slaB
  | slaC
  | slaD
  | slaE
  | slaH
  | slaL
  | slaMHL
  | slaA
  | sraB
  | sraC
  | sraD
  | sraE
  | sraH
  | sraL
  | sraMHL
  | sraA
  | swapB
  | swapC
  | swapD
  | swapE
  | swapH
  | swapL
  | swapMHL
  | swapA
  | srlB
  | srlC
  | srlD
  | srlE
  | srlH
  | srlL
  | srlMHL
  | srlA
  | bit0B
  | bit0C
  | bit0D
  | bit0E
  | bit0H
  | bit0L
  | bit0MHL
  | bit0A
  | bit1B
  | bit1C
  | bit1D
  | bit1E
  | bit1H
  | bit1L
  | bit1MHL
  | bit1A
  | bit2B
  | bit2C
  | bit2D
  | bit2E
  | bit2H
  | bit2L
  | bit2MHL
  | bit2A
  | bit3B
  | bit3C
  | bit3D
  | bit3E
  | bit3H
  | bit3L
  | bit3MHL
  | bit3A
  | bit4B
  | bit4C
  | bit4D
  | bit4E
  | bit4H
  | bit4L
  | bit4MHL
  | bit4A
  | bit5B
  | bit5C
  | bit5D
  | bit5E
  | bit5H
  | bit5L
  | bit5MHL
  | bit5A
  | bit6B
  | bit6C
  | bit6D
  | bit6E
  | bit6H
  | bit6L
  | bit6MHL
  | bit6A
  | bit7B
  | bit7C
  | bit7D
  | bit7E
  | bit7H
  | bit7L
  | bit7MHL
  | bit7A
  | res0B
  | res0C
  | res0D
  | res0E
  | res0H
  | res0L
  | res0MHL
  | res0A
  | res1B
  | res1C
  | res1D
  | res1E
  | res1H
  | res1L
  | res1MHL
  | res1A
  | res2B
  | res2C
  | res2D
  | res2E
  | res2H
  | res2L
  | res2MHL
  | res2A
  | res3B
  | res3C
  | res3D
  | res3E
  | res3H
  | res3L
  | res3MHL
  | res3A
  | res4B
  | res4C
  | res4D
  | res4E
  | res4H
  | res4L
  | res4MHL
  | res4A
  | res5B
  | res5C
  | res5D
  | res5E
  | res5H
  | res5L
  | res5MHL
  | res5A
  | res6B
  | res6C
  | res6D
  | res6E
  | res6H
  | res6L
  | res6MHL
  | res6A
  | res7B
  | res7C
  | res7D
  | res7E
  | res7H
  | res7L
  | res7MHL
  | res7A
  | set0B
  | set0C
  | set0D
  | set0E
  | set0H
  | set0L
  | set0MHL
  | set0A
  | set1B
  | set1C
  | set1D
  | set1E
  | set1H
  | set1L
  | set1MHL
  | set1A
  | set2B
  | set2C
  | set2D
  | set2E
  | set2H
  | set2L
  | set2MHL
  | set2A
  | set3B
  | set3C
  | set3D
  | set3E
  | set3H
  | set3L
  | set3MHL
  | set3A
  | set4B
  | set4C
  | set4D
  | set4E
  | set4H
  | set4L
  | set4MHL
  | set4A
  | set5B
  | set5C
  | set5D
  | set5E
  | set5H
  | set5L
  | set5MHL
  | set5A
  | set6B
  | set6C
  | set6D
  | set6E
  | set6H
  | set6L
  | set6MHL
  | set6A
  | set7B
  | set7C
  | set7D
  | set7E
  | set7H
  | set7L
  | set7MHL
  | set7A
deriving DecidableEq, Repr

end Sys2Proof
end

