-- ==== Sys2Proof/Machine/Flags.lean ====
section
/-! DEFINITION. The F register and every flag computation of the instruction set, on plain bytes: operands are taken as
numbers, the exact result is formed, and carry and half carry compare it with the width. -/

namespace Sys2Proof.Machine

/-! ## F as a byte -/

/-- F read as a whole (10_state.md R34): Z N H C in bits 7 to 4, bits 3 to 0 read 0. -/
def Flags.toByte (f : Flags) : Byte := bit f.z ++ bit f.n ++ bit f.h ++ bit f.c ++ 0#4

/-- F written as a whole: the low four bits of the byte are discarded (R34; 41_load16_stack.md R235). -/
def Flags.ofByte (v : Byte) : Flags where
  z := v.getLsbD 7
  n := v.getLsbD 6
  h := v.getLsbD 5
  c := v.getLsbD 4

/-- `Cond(cc)` (45_control_transfer.md R361): N and H cannot be tested. -/
def condHolds : Cond → Flags → Bool
  | .nz, f => !f.z
  | .z, f => f.z
  | .nc, f => !f.c
  | .c, f => f.c

/-! ## 8-bit arithmetic -/

/-- A result byte with its half carry and carry (42_alu8.md R290, R291). -/
structure Arith where
  res : Byte
  h : Bool
  c : Bool
deriving DecidableEq, Repr

/-- `Add8(a, b, cin)` (R290). -/
def add8 (a b : Byte) (cin : Bool) : Arith where
  res := BitVec.ofNat 8 (a.toNat + b.toNat + cin.toNat)
  h := decide (a.toNat % 16 + b.toNat % 16 + cin.toNat > 0xF)
  c := decide (a.toNat + b.toNat + cin.toNat > 0xFF)

/-- `Sub8(a, b, bin)` (R291). -/
def sub8 (a b : Byte) (bin : Bool) : Arith where
  res := BitVec.ofInt 8 ((a.toNat : Int) - b.toNat - bin.toNat)
  h := decide (a.toNat % 16 < b.toNat % 16 + bin.toNat)
  c := decide (a.toNat < b.toNat + bin.toNat)

/-- Flags of the additions: `Z N H C = (res = 0) 0 h c` (R250 to R255). -/
def Arith.addFlags (r : Arith) : Flags where
  z := r.res == 0
  n := false
  h := r.h
  c := r.c

/-- Flags of the subtractions and of CP: `Z N H C = (res = 0) 1 h c` (R256 to R261, R271 to R273). -/
def Arith.subFlags (r : Arith) : Flags where
  z := r.res == 0
  n := true
  h := r.h
  c := r.c

/-- Flags of AND: `(res = 0) 0 1 0` (R262 to R264). -/
def andFlags (res : Byte) : Flags where
  z := res == 0
  n := false
  h := true
  c := false

/-- Flags of XOR and OR: `(res = 0) 0 0 0` (R265 to R270). -/
def orFlags (res : Byte) : Flags where
  z := res == 0
  n := false
  h := false
  c := false

/-- What one of the eight two-operand operations makes of A: the byte A becomes (A itself for CP, whose result is not
written) and the flags. The carry in of ADC and SBC is the C flag (R250 to R273). -/
def alu (op : AluOp) (a v : Byte) (f : Flags) : Byte × Flags :=
  match op with
  | .add => ((add8 a v false).res, (add8 a v false).addFlags)
  | .adc => ((add8 a v f.c).res, (add8 a v f.c).addFlags)
  | .sub => ((sub8 a v false).res, (sub8 a v false).subFlags)
  | .sbc => ((sub8 a v f.c).res, (sub8 a v f.c).subFlags)
  | .and => (a &&& v, andFlags (a &&& v))
  | .xor => (a ^^^ v, orFlags (a ^^^ v))
  | .or => (a ||| v, orFlags (a ||| v))
  | .cp => (a, (sub8 a v false).subFlags)

/-- Flags of INC: `(res = 0) 0 (old[3:0] = 0xF) -` (R274, R275). -/
def incFlags (old : Byte) (f : Flags) : Flags where
  z := old + 1 == 0
  n := false
  h := decide (old.toNat % 16 = 0xF)
  c := f.c

/-- Flags of DEC: `(res = 0) 1 (old[3:0] = 0) -` (R276, R277). -/
def decFlags (old : Byte) (f : Flags) : Flags where
  z := old - 1 == 0
  n := true
  h := decide (old.toNat % 16 = 0x0)
  c := f.c

/-- DAA (R278): the adjusted A and the flags. The test `a > 0x99` uses A before any adjustment. -/
def daa (a : Byte) (f : Flags) : Byte × Flags :=
  let high := f.c || (!f.n && decide (a.toNat > 0x99))
  let low := f.h || (!f.n && decide (a.toNat % 16 > 0x9))
  let adj : Byte := (if high then 0x60 else 0x00) + (if low then 0x06 else 0x00)
  let res := if f.n then a - adj else a + adj
  (res, { z := res == 0, n := f.n, h := false, c := high })

/-- Flags of CPL: `- 1 1 -` (R279). -/
def cplFlags (f : Flags) : Flags := { f with n := true, h := true }

/-- Flags of SCF: `- 0 0 1` (R280). -/
def scfFlags (f : Flags) : Flags := { f with n := false, h := false, c := true }

/-- Flags of CCF: `- 0 0 (~C)` (R281). -/
def ccfFlags (f : Flags) : Flags := { f with n := false, h := false, c := !f.c }

/-! ## 16-bit arithmetic -/

/-- Flags of ADD HL,rr: `- 0 h c`, carries out of bits 11 and 15 (43_alu16.md R300). -/
def addHLFlags (x y : Word) (f : Flags) : Flags where
  z := f.z
  n := false
  h := decide (x.toNat % 4096 + y.toNat % 4096 > 0xFFF)
  c := decide (x.toNat + y.toNat > 0xFFFF)

/-- Flags of ADD SP,e and LD HL,SP+e: `0 0 h c` on the unsigned low bits of sp and the unsigned byte e, whatever the sign of
e (R303; 41_load16_stack.md R236). -/
def spFlags (sp : Word) (e : Byte) : Flags where
  z := false
  n := false
  h := decide (sp.toNat % 16 + e.toNat % 16 > 0xF)
  c := decide (sp.toNat % 256 + e.toNat > 0xFF)

/-- INC rr on the two halves (R301): the high half is incremented when the low half wraps to 0. -/
def incHalves (v : Word) : Word :=
  let l := lo v + 1
  word (if l = 0x00 then hi v + 1 else hi v) l

/-- DEC rr on the two halves (R302): the high half is decremented when the low half wraps to 0xFF. -/
def decHalves (v : Word) : Word :=
  let l := lo v - 1
  word (if l = 0xFF then hi v - 1 else hi v) l

/-! ## Rotates and shifts -/

/-- A rotate or shift of a byte with the C flag as carry in: the result and the carry out (44_rotate_shift_bit.md
R340 to R347). -/
def rotate (op : RotOp) (v : Byte) (cin : Bool) : Byte × Bool :=
  match op with
  | .rlc => (v.extractLsb' 0 7 ++ v.extractLsb' 7 1, v.getLsbD 7)
  | .rrc => (v.extractLsb' 0 1 ++ v.extractLsb' 1 7, v.getLsbD 0)
  | .rl => (v.extractLsb' 0 7 ++ bit cin, v.getLsbD 7)
  | .rr => (bit cin ++ v.extractLsb' 1 7, v.getLsbD 0)
  | .sla => (v.extractLsb' 0 7 ++ 0#1, v.getLsbD 7)
  | .sra => (v.extractLsb' 7 1 ++ v.extractLsb' 1 7, v.getLsbD 0)
  | .swap => (v.extractLsb' 0 4 ++ v.extractLsb' 4 4, false)
  | .srl => (0#1 ++ v.extractLsb' 1 7, v.getLsbD 0)

/-- Flags of the extended rotates and shifts: `(res = 0) 0 0 c` (R314 to R329; c is 0 for SWAP). -/
def rotFlags (r : Byte × Bool) : Flags where
  z := r.1 == 0
  n := false
  h := false
  c := r.2

/-- Flags of the accumulator rotates: `0 0 0 c`, Z always cleared (R310 to R313). -/
def accRotFlags (r : Byte × Bool) : Flags where
  z := false
  n := false
  h := false
  c := r.2

/-- Flags of BIT: `(v[b] = 0) 0 1 -` (R330, R331). -/
def bitFlags (v : Byte) (k : Nat) (f : Flags) : Flags where
  z := !v.getLsbD k
  n := false
  h := true
  c := f.c

end Sys2Proof.Machine
end

