-- ==== Sys2Proof/Machine/Cartridge.lean ====
section
/-! DEFINITION. The cartridge port (62_boundary_units.md R560 to R567): the ROM window, external RAM, the four bank
controllers and the clock. -/

namespace Sys2Proof.Machine

/-- The byte of a cell: what was stored, or the free value of a cell nothing has written (10_state.md R77;
notes/assumptions/7.md). -/
def cell (st : Store) (m : Memory) (k : Nat) : Byte := (m.get? k).getD (Config.powerOnByte st k)

/-- A ROM bank is 16 KiB (R561). -/
def romBankSize : Nat := 0x4000

/-- A RAM bank is 8 KiB (R561). -/
def ramBankSize : Nat := 0x2000

/-! ## Bank selection -/

/-- The ROM bank seen at 0x0000–0x3FFF: 0, but for Controller-1 in banking mode 1 (R563). -/
def Cart.lowBank (c : Cart) : Nat :=
  match c.kind with
  | .controller1 => if c.bankMode then (c.bankHi ++ 0#5).toNat % c.romBanks else 0
  | _ => 0

/-- The ROM bank seen at 0x4000–0x7FFF: Controller-1 replaces a 5-bit 0 by 1 (R563), Controller-3 a 7-bit 0 by 1 (R565),
Controller-5 selects 0 (R566), ROM-only has bank 1 fixed (R562). -/
def Cart.highBank (c : Cart) : Nat :=
  match c.kind with
  | .romOnly => 1
  | .controller1 => (c.bankHi ++ (if c.bankLo = 0 then 1 else c.bankLo)).toNat % c.romBanks
  | .controller3 => (if c.romBank3 = 0 then 1 else c.romBank3.toNat) % c.romBanks
  | .controller5 => c.romBank5.toNat % c.romBanks

/-- The offset into the ROM image that an address below 0x8000 reads. -/
def Cart.romKey (c : Cart) (a : Word) : Nat :=
  if a.toNat < romBankSize then c.lowBank * romBankSize + a.toNat
  else c.highBank * romBankSize + (a.toNat - romBankSize)

/-- The external-RAM bank that 0xA000–0xBFFF reaches, or none where RAM is absent, disabled or not selected: a fixed bank
for ROM-only (R562), gated by the enable register otherwise (R563, R565, R566). -/
def Cart.ramBank (c : Cart) : Option Nat :=
  if c.ramBanks = 0 then none
  else
    match c.kind with
    | .romOnly => some 0
    | .controller1 => if c.ramEnable then some ((if c.bankMode then c.bankHi.toNat else 0) % c.ramBanks) else none
    | .controller3 => if c.ramEnable ∧ c.sel.toNat ≤ 7 then some (c.sel.toNat % c.ramBanks) else none
    | .controller5 => if c.ramEnable then some (c.ramBank5.toNat % c.ramBanks) else none

/-- The clock registers of Controller-3 (R565). -/
inductive ClockReg where
  | seconds | minutes | hours | dayLow | dayHigh
deriving DecidableEq, Repr

/-- The clock register that 0xA000–0xBFFF reaches: only on a Controller-3 with a clock, enabled, with a select code from
0x08 to 0x0C (R565; notes/assumptions/15.md). -/
def Cart.clockReg (c : Cart) : Option ClockReg :=
  if c.kind = .controller3 ∧ c.hasClock ∧ c.ramEnable then
    match c.sel.toNat with
    | 0x08 => some .seconds
    | 0x09 => some .minutes
    | 0x0A => some .hours
    | 0x0B => some .dayLow
    | 0x0C => some .dayHigh
    | _ => none
  else none

/-- The read of a clock register; the unused bits of the day's high register read `P_FILL`'s bits (R565; 00_scope.md R7;
notes/assumptions/15.md). -/
def Clock.read (fill : Byte) (k : Clock) : ClockReg → Byte
  | .seconds => k.seconds
  | .minutes => k.minutes
  | .hours => k.hours
  | .dayLow => k.day.extractLsb' 0 8
  | .dayHigh => bit k.carry ++ bit k.halt ++ fill.extractLsb' 1 5 ++ k.day.extractLsb' 8 1

/-- The write of a clock register. -/
def Clock.write (v : Byte) (k : Clock) : ClockReg → Clock
  | .seconds => { k with seconds := v }
  | .minutes => { k with minutes := v }
  | .hours => { k with hours := v }
  | .dayLow => { k with day := k.day.extractLsb' 8 1 ++ v }
  | .dayHigh => { k with day := v.extractLsb' 0 1 ++ k.day.extractLsb' 0 8, halt := v.getLsbD 6, carry := v.getLsbD 7 }

/-! ## The port's functions (R560) -/

/-- The key of the external-RAM cell of an address in 0xA000–0xBFFF. -/
def ramKey (bank : Nat) (a : Word) : Nat := bank * ramBankSize + (a.toNat - 0xA000)

/-- `CartRead(a)` for 0x0000–0x7FFF and 0xA000–0xBFFF. Absent or disabled RAM reads `P_FILL` (R562, R563). -/
def Cart.read (fill : Byte) (c : Cart) (a : Word) : Byte :=
  if a.toNat < 0x8000 then cell .rom c.rom (c.romKey a)
  else
    match c.clockReg, c.ramBank with
    | some r, _ => c.clock.read fill r
    | none, some b => cell .xram c.xram (ramKey b a)
    | none, none => fill

/-- A write below 0x8000: the bank controller's registers by write range (R562, R563, R565, R566). -/
def Cart.writeReg (c : Cart) (a : Word) (v : Byte) : Cart :=
  let enable := decide (v.toNat % 16 = 0xA)
  let q := a.toNat / 0x2000
  match c.kind, q with
  | .romOnly, _ => c
  | _, 0 => { c with ramEnable := enable }
  | .controller1, 1 => { c with bankLo := v.extractLsb' 0 5 }
  | .controller1, 2 => { c with bankHi := v.extractLsb' 0 2 }
  | .controller1, _ => { c with bankMode := v.getLsbD 0 }
  | .controller3, 1 => { c with romBank3 := v.extractLsb' 0 7 }
  | .controller3, 2 => { c with sel := v }
  | .controller3, _ => c
  | .controller5, 1 =>
    if a.toNat < 0x3000 then { c with romBank5 := c.romBank5.extractLsb' 8 1 ++ v }
    else { c with romBank5 := v.extractLsb' 0 1 ++ c.romBank5.extractLsb' 0 8 }
  | .controller5, 2 => { c with ramBank5 := v.extractLsb' 0 4 }
  | .controller5, _ => c

/-- `CartWrite(a, v)`. A write to absent or disabled RAM is ignored (R562, R563). -/
def Cart.write (c : Cart) (a : Word) (v : Byte) : Cart :=
  if a.toNat < 0x8000 then c.writeReg a v
  else
    match c.clockReg, c.ramBank with
    | some r, _ => { c with clock := c.clock.write v r }
    | none, some b => { c with xram := c.xram.set (ramKey b a) v }
    | none, none => c

/-! ## The clock (R565) -/

/-- Ticks of one second of the clock (R565). -/
def ticksPerSecond : Nat := 4194304

/-- One more of a count that runs from 0 to `top` and carries: the new byte, whether it carries, and the index of the next
free value. From a byte above `top`, which only a write can leave there, the spec states no result: the byte becomes a
free value, and a free bit says whether it carries (notes/assumptions/14.md). -/
def countUp (top : Nat) (v : Byte) (free : Nat) : Byte × Bool × Nat :=
  if v.toNat < top then (v + 1, false, free)
  else if v.toNat = top then (0, true, free)
  else (Config.freeByte free, (Config.freeByte (free + 1)).getLsbD 0, free + 2)

/-- One second: seconds carry into minutes, hours and the 9-bit day, whose overflow sets the carry bit (R565). -/
def Clock.second (k : Clock) (free : Nat) : Clock × Nat :=
  let s := countUp 59 k.seconds free
  let k := { k with seconds := s.1 }
  if s.2.1 then
    let m := countUp 59 k.minutes s.2.2
    let k := { k with minutes := m.1 }
    if m.2.1 then
      let h := countUp 23 k.hours m.2.2
      let k := { k with hours := h.1 }
      if h.2.1 then
        ({ k with day := k.day + 1, carry := k.carry || decide (k.day.toNat = 511) }, h.2.2)
      else (k, h.2.2)
    else (k, m.2.2)
  else (k, s.2.2)

/-- So many seconds. -/
def Clock.secondsPass : Nat → Clock → Nat → Clock × Nat
  | 0, k, free => (k, free)
  | n + 1, k, free =>
    let r := k.second free
    Clock.secondsPass n r.1 r.2

/-- `CartAdvance(t)` (R565): only a Controller-3 with a clock, enabled and not halted, moves. -/
def Cart.advance (t : Nat) (c : Cart) (free : Nat) : Cart × Nat :=
  if c.kind = .controller3 ∧ c.hasClock ∧ c.ramEnable ∧ ¬ c.clock.halt then
    let sub := c.clock.subsec + t
    let k := { c.clock with subsec := sub % ticksPerSecond }
    let r := Clock.secondsPass (sub / ticksPerSecond) k free
    ({ c with clock := r.1 }, r.2)
  else (c, free)

end Sys2Proof.Machine
end

