-- ==== Sys2Proof/Machine/Pixel.lean ====
section
/-! DEFINITION. The pixel port (62_boundary_units.md R550 to R557): the scanline state machine and the LCD registers.
Pictures are outside the block (R558, R559). -/

namespace Sys2Proof.Machine

/-! ## The document's numbers (R551, R552; named constants as 93_implementation_defined.md U1 asks) -/

/-- Dots of a scanline. -/
def dotsPerLine : Nat := 456

/-- The dot at which OAM-scan becomes pixel-transfer. -/
def transferDot : Nat := 80

/-- The dot at which pixel-transfer becomes horizontal-blank. -/
def hblankDot : Nat := 368

/-- Visible scanlines, 0 to 143. -/
def visibleLines : Nat := 144

/-- Scanlines of a frame. -/
def linesPerFrame : Nat := 154

/-- The set E of events of `PpuAdvance` (R550). -/
structure Events where
  modeChanged : Bool
  lyChanged : Bool
  hblankEnd : Bool
  vblankEntry : Bool
deriving DecidableEq, Repr

/-- No event. -/
def Events.none : Events where
  modeChanged := false
  lyChanged := false
  hblankEnd := false
  vblankEntry := false

/-- The union of two sets of events. -/
def Events.union (x y : Events) : Events where
  modeChanged := x.modeChanged || y.modeChanged
  lyChanged := x.lyChanged || y.lyChanged
  hblankEnd := x.hblankEnd || y.hblankEnd
  vblankEntry := x.vblankEntry || y.vblankEntry

/-- The end of a scanline, at dot 456 (R552 to R554). -/
def Ppu.endLine (p : Ppu) : Ppu × Events :=
  if p.ly < visibleLines then
    let toVBlank := decide (p.ly + 1 = visibleLines)
    let mode := if toVBlank then PpuMode.vblank else PpuMode.oamScan
    ({ p with dot := 0, ly := p.ly + 1, mode := mode },
      { modeChanged := decide (p.mode ≠ mode), lyChanged := true, hblankEnd := true, vblankEntry := toVBlank })
  else if p.ly + 1 = linesPerFrame then
    ({ p with dot := 0, ly := 0, mode := .oamScan },
      { modeChanged := decide (p.mode ≠ .oamScan), lyChanged := true, hblankEnd := false, vblankEntry := false })
  else
    ({ p with dot := 0, ly := p.ly + 1 },
      { modeChanged := false, lyChanged := true, hblankEnd := false, vblankEntry := false })

/-- One tick of `PpuAdvance` (R552). The value 456 of the dot counter exists only inside a tick. -/
def Ppu.tick (p : Ppu) : Ppu × Events :=
  let p := { p with dot := p.dot + 1 }
  if p.dot = dotsPerLine then p.endLine
  else if p.ly < visibleLines ∧ p.dot = transferDot then
    ({ p with mode := .pixelTransfer }, { Events.none with modeChanged := decide (p.mode ≠ .pixelTransfer) })
  else if p.ly < visibleLines ∧ p.dot = hblankDot then
    ({ p with mode := .hblank }, { Events.none with modeChanged := decide (p.mode ≠ .hblank) })
  else (p, Events.none)

/-- `PpuAdvance(t)` (R550). -/
def Ppu.advance : Nat → Ppu → Ppu × Events
  | 0, p => (p, Events.none)
  | t + 1, p =>
    let r := p.tick
    let r' := Ppu.advance t r.1
    (r'.1, r.2.union r'.2)

/-- The mode codes STAT reads (10_state.md R53). -/
def PpuMode.code : PpuMode → BitVec 2
  | .hblank => 0
  | .vblank => 1
  | .oamScan => 2
  | .pixelTransfer => 3

/-- LY as software reads it (R557). -/
def Ppu.lyByte (p : Ppu) : Byte := BitVec.ofNat 8 p.ly

/-- `LY = LYC`. -/
def Ppu.coincidence (p : Ppu) : Bool := p.lyByte == p.lyc

/-- The read of STAT (R557; 10_state.md R53): `{1, STAT[6:3], LY = LYC, mode}`. -/
def Ppu.readStat (p : Ppu) : Byte := 1#1 ++ p.statEn ++ bit p.coincidence ++ p.mode.code

/-- The status condition (20_memory.md R145): statEn bit 3 is STAT[6], bit 0 is STAT[3]. -/
def Ppu.statCond (p : Ppu) : Bool :=
  (p.statEn.getLsbD 3 && p.coincidence) || (p.statEn.getLsbD 2 && p.mode == .oamScan) ||
    (p.statEn.getLsbD 1 && p.mode == .vblank) || (p.statEn.getLsbD 0 && p.mode == .hblank)

/-- `PpuReadReg` for the register at 0xFF00 + `off` (R557; 20_memory.md R117); none where there is no register. -/
def Ppu.read (p : Ppu) : Nat → Option Byte
  | 0x40 => some p.lcdc
  | 0x41 => some p.readStat
  | 0x42 => some p.scy
  | 0x43 => some p.scx
  | 0x44 => some p.lyByte
  | 0x45 => some p.lyc
  | 0x47 => some p.bgp
  | 0x48 => some p.obp0
  | 0x49 => some p.obp1
  | 0x4A => some p.wy
  | 0x4B => some p.wx
  | _ => none

/-- `PpuWriteReg` for the register at 0xFF00 + `off` (R557): a write to STAT stores v[6:3], a write to LY does nothing. -/
def Ppu.write (off : Nat) (v : Byte) (p : Ppu) : Ppu :=
  match off with
  | 0x40 => { p with lcdc := v }
  | 0x41 => { p with statEn := v.extractLsb' 3 4 }
  | 0x42 => { p with scy := v }
  | 0x43 => { p with scx := v }
  | 0x45 => { p with lyc := v }
  | 0x47 => { p with bgp := v }
  | 0x48 => { p with obp0 := v }
  | 0x49 => { p with obp1 := v }
  | 0x4A => { p with wy := v }
  | 0x4B => { p with wx := v }
  | _ => p

end Sys2Proof.Machine
end

