-- ==== Sys2Proof/Machine/Sound.lean ====
section
/-! DEFINITION. The sound unit (61_timer_and_sound.md R475 to R539): registers, trigger, frame sequencer, generators,
mixer. -/

namespace Sys2Proof.Machine

/-! ## Fields of the backing bytes (10_state.md R60 to R63; R480) -/

/-- `freq = {NRk4[2:0], NRk3}` (R480). -/
def freq (nrk3 nrk4 : Byte) : BitVec 11 := nrk4.extractLsb' 0 3 ++ nrk3

/-- `length_enable = NRk4[6]` (R480). -/
def lengthEnable (nrk4 : Byte) : Bool := nrk4.getLsbD 6

/-- NRk2 bits 7:4 (10_state.md R60). -/
def envInitial (nrk2 : Byte) : BitVec 4 := nrk2.extractLsb' 4 4

/-- NRk2 bit 3, 1 = increase (10_state.md R60). -/
def envDir (nrk2 : Byte) : Bool := nrk2.getLsbD 3

/-- NRk2 bits 2:0 (10_state.md R60). -/
def envPeriod (nrk2 : Byte) : BitVec 3 := nrk2.extractLsb' 0 3

/-- The direction and period that a trigger takes into use (R483). -/
def envelopeOf (nrk2 : Byte) : Envelope where
  up := envDir nrk2
  period := envPeriod nrk2

/-- `DacOn(k)` for k = 1, 2, 4: `NRk2[7:3] ≠ 0` (R493). -/
def dacOn (nrk2 : Byte) : Bool := decide (nrk2.toNat / 8 ≠ 0)

/-- `DacOn(3)`: `NR30[7]` (R493). -/
def dacOn3 (nr30 : Byte) : Bool := nr30.getLsbD 7

/-- NR10 bits 6:4 (10_state.md R60). -/
def sweepPeriod (nr10 : Byte) : Nat := nr10.toNat / 16 % 8

/-- NR10 bit 3, 1 = subtract (10_state.md R60). -/
def sweepNegate (nr10 : Byte) : Bool := nr10.getLsbD 3

/-- NR10 bits 2:0 (10_state.md R60). -/
def sweepShift (nr10 : Byte) : Nat := nr10.toNat % 8

/-- A period field where 0 counts as 8 (R490, R502). -/
def orEight (p : Nat) : BitVec 4 := if p = 0 then 8 else BitVec.ofNat 4 p

/-! ## Periods (R510), in ticks -/

/-- `Period(k)` for k = 1, 2. -/
def pulsePeriod (f : BitVec 11) : Nat := (2048 - f.toNat) * 4

/-- `Period(3)`. -/
def wavePeriod (f : BitVec 11) : Nat := (2048 - f.toNat) * 2

/-- `Divisor[divisor_code]`. -/
def noiseDivisor : Nat → Nat
  | 0 => 8
  | c => 16 * c

/-- `Period(4)`, from NR43. -/
def noisePeriod (nr43 : Byte) : Nat := noiseDivisor (nr43.toNat % 8) * 2 ^ (nr43.toNat / 16)

/-! ## Sweep (R502, R503) -/

/-- `SweepCalc()`: the new frequency as an integer; above 2047 it disables channel 1. -/
def Sound.sweepCalc (s : Sound) : Nat × Sound :=
  let shadow := s.sweep.shadow.toNat
  let delta := shadow / 2 ^ sweepShift s.regs.nr10
  let new := if sweepNegate s.regs.nr10 then shadow - delta else shadow + delta
  (new, if new > 2047 then { s with ch1.enabled := false } else s)

/-- `SweepClock()` (steps 2 and 6). -/
def Sound.sweepClock (s : Sound) : Sound :=
  let t := if s.sweep.timer.toNat > 0 then s.sweep.timer - 1 else s.sweep.timer
  if t ≠ 0 then { s with sweep.timer := t }
  else
    let period := sweepPeriod s.regs.nr10
    let s := { s with sweep.timer := orEight period }
    if s.sweep.enabled && decide (period ≠ 0) then
      let (new, s) := s.sweepCalc
      if new ≤ 2047 ∧ sweepShift s.regs.nr10 ≠ 0 then
        let f := BitVec.ofNat 11 new
        ({ s with
            sweep.shadow := f
            regs.nr13 := f.extractLsb' 0 8
            regs.nr14 := s.regs.nr14.extractLsb' 3 5 ++ f.extractLsb' 8 3 }).sweepCalc.2
      else s
    else s

/-! ## Trigger (R490) -/

/-- The length a trigger leaves: reloaded only if it is 0 (R490, R491). -/
def triggerLength (length full : Nat) : Nat := if length = 0 then full else length

/-- The pulse channel part of a trigger, from the channel's registers. -/
def Pulse.trigger (c : Pulse) (nrk2 nrk3 nrk4 : Byte) : Pulse where
  enabled := true
  length := triggerLength c.length 64
  freqTimer := pulsePeriod (freq nrk3 nrk4)
  volume := envInitial nrk2
  envTimer := orEight (envPeriod nrk2).toNat
  env := envelopeOf nrk2
  dutyPos := c.dutyPos

/-- `Trigger(1)`. -/
def Sound.trigger1 (s : Sound) : Sound :=
  let r := s.regs
  let s := { s with
    ch1 := s.ch1.trigger r.nr12 r.nr13 r.nr14
    sweep := {
      shadow := freq r.nr13 r.nr14
      timer := orEight (sweepPeriod r.nr10)
      enabled := decide (sweepPeriod r.nr10 ≠ 0) || decide (sweepShift r.nr10 ≠ 0) } }
  let s := if sweepShift r.nr10 ≠ 0 then s.sweepCalc.2 else s
  if dacOn r.nr12 then s else { s with ch1.enabled := false }

/-- `Trigger(2)`. -/
def Sound.trigger2 (s : Sound) : Sound :=
  let r := s.regs
  let s := { s with ch2 := s.ch2.trigger r.nr22 r.nr23 r.nr24 }
  if dacOn r.nr22 then s else { s with ch2.enabled := false }

/-- `Trigger(3)`. -/
def Sound.trigger3 (s : Sound) : Sound :=
  let r := s.regs
  { s with ch3 := {
      enabled := dacOn3 r.nr30
      length := triggerLength s.ch3.length 256
      freqTimer := wavePeriod (freq r.nr33 r.nr34)
      wavePos := 0 } }

/-- `Trigger(4)`. -/
def Sound.trigger4 (s : Sound) : Sound :=
  let r := s.regs
  { s with ch4 := {
      enabled := dacOn r.nr42
      length := triggerLength s.ch4.length 64
      freqTimer := noisePeriod r.nr43
      volume := envInitial r.nr42
      envTimer := orEight (envPeriod r.nr42).toNat
      env := envelopeOf r.nr42
      lfsr := 0x7FFF } }

/-! ## The frame sequencer (R500, R501, R504) -/

/-- `LengthClock(k)` on a length counter and an enable flag (R501). -/
def lengthClock (nrk4 : Byte) (length : Nat) (enabled : Bool) : Nat × Bool :=
  if lengthEnable nrk4 && decide (length > 0) then (length - 1, enabled && decide (length - 1 ≠ 0))
  else (length, enabled)

/-- `LengthClock(k)` for k = 1..4. -/
def Sound.lengthClocks (s : Sound) : Sound :=
  let r := s.regs
  let l1 := lengthClock r.nr14 s.ch1.length s.ch1.enabled
  let l2 := lengthClock r.nr24 s.ch2.length s.ch2.enabled
  let l3 := lengthClock r.nr34 s.ch3.length s.ch3.enabled
  let l4 := lengthClock r.nr44 s.ch4.length s.ch4.enabled
  { s with
    ch1.length := l1.1, ch1.enabled := l1.2
    ch2.length := l2.1, ch2.enabled := l2.2
    ch3.length := l3.1, ch3.enabled := l3.2
    ch4.length := l4.1, ch4.enabled := l4.2 }

/-- `EnvelopeClock(k)` on a volume and an envelope timer (R504), with the direction and period in use (R483): nothing for a
period of 0; else the timer counts down, and at 0 it reloads and the volume moves one step inside 0..15. -/
def envClock (env : Envelope) (volume timer : BitVec 4) : BitVec 4 × BitVec 4 :=
  if env.period = 0 then (volume, timer)
  else
    let t := if timer.toNat > 0 then timer - 1 else timer
    if t ≠ 0 then (volume, t)
    else
      let v :=
        if env.up then (if volume.toNat < 15 then volume + 1 else volume)
        else (if volume.toNat > 0 then volume - 1 else volume)
      (v, env.period.setWidth 4)

/-- `EnvelopeClock(k)` for k = 1, 2, 4. -/
def Sound.envelopeClocks (s : Sound) : Sound :=
  let e1 := envClock s.ch1.env s.ch1.volume s.ch1.envTimer
  let e2 := envClock s.ch2.env s.ch2.volume s.ch2.envTimer
  let e4 := envClock s.ch4.env s.ch4.volume s.ch4.envTimer
  { s with
    ch1.volume := e1.1, ch1.envTimer := e1.2
    ch2.volume := e2.1, ch2.envTimer := e2.2
    ch4.volume := e4.1, ch4.envTimer := e4.2 }

/-- `FrameSequencerStep()` (R500): acts on the step the counter holds and then increments it; nothing with the power
off. -/
def Sound.frameSequencerStep (s : Sound) : Sound :=
  if s.power then
    let n := s.fsStep.toNat
    let s := if n % 2 = 0 then s.lengthClocks else s
    let s := if n = 2 ∨ n = 6 then s.sweepClock else s
    let s := if n = 7 then s.envelopeClocks else s
    { s with fsStep := s.fsStep + 1 }
  else s

/-! ## Generators (R511 to R513, R520) -/

/-- `GenTick(k)`, k = 1, 2. -/
def Pulse.genTick (c : Pulse) (period : Nat) : Pulse :=
  if c.freqTimer - 1 = 0 then { c with freqTimer := period, dutyPos := c.dutyPos + 1 }
  else { c with freqTimer := c.freqTimer - 1 }

/-- `GenTick(3)`. -/
def Wave.genTick (c : Wave) (period : Nat) : Wave :=
  if c.freqTimer - 1 = 0 then { c with freqTimer := period, wavePos := c.wavePos + 1 }
  else { c with freqTimer := c.freqTimer - 1 }

/-- One step of the shift register (R512): `x = lfsr[0] ^ lfsr[1]` goes in at bit 14, and at bit 6 too when `width7`. -/
def lfsrStep (r : BitVec 15) (width7 : Bool) : BitVec 15 :=
  let x := r.getLsbD 0 ^^ r.getLsbD 1
  let next : BitVec 15 := bit x ++ r.extractLsb' 1 14
  if width7 then next.extractLsb' 7 8 ++ bit x ++ next.extractLsb' 0 6 else next

/-- `GenTick(4)`. -/
def Noise.genTick (c : Noise) (nr43 : Byte) : Noise :=
  if c.freqTimer - 1 = 0 then
    { c with freqTimer := noisePeriod nr43, lfsr := lfsrStep c.lfsr (nr43.getLsbD 3) }
  else { c with freqTimer := c.freqTimer - 1 }

/-- `GenTick(k)` for k = 1..4, with the power on (R520). -/
def Sound.genTicks (s : Sound) : Sound :=
  if s.power then
    { s with
      ch1 := s.ch1.genTick (pulsePeriod (freq s.regs.nr13 s.regs.nr14))
      ch2 := s.ch2.genTick (pulsePeriod (freq s.regs.nr23 s.regs.nr24))
      ch3 := s.ch3.genTick (wavePeriod (freq s.regs.nr33 s.regs.nr34))
      ch4 := s.ch4.genTick s.regs.nr43 }
  else s

/-! ## Outputs (R530 to R538) -/

/-- `DutyTable[duty]`, position 0 first (R511). -/
def dutyRow : Nat → List Nat
  | 0 => [0, 0, 0, 0, 0, 0, 0, 1]
  | 1 => [1, 0, 0, 0, 0, 0, 0, 1]
  | 2 => [1, 0, 0, 0, 0, 1, 1, 1]
  | _ => [0, 1, 1, 1, 1, 1, 1, 0]

/-- `Dig(k)` for k = 1, 2 (R530); duty is NRk1 bits 7:6. -/
def Pulse.dig (c : Pulse) (nrk1 : Byte) : Nat :=
  if c.enabled then (dutyRow (nrk1.toNat / 64)).getD c.dutyPos.toNat 0 * c.volume.toNat else 0

/-- `Dig(3)`: the programmable-wave channel outputs silence (R531). -/
def Wave.dig (_ : Wave) : Nat := 0

/-- `Dig(4)` (R530): the waveform bit is the complement of `lfsr[0]` (R512). -/
def Noise.dig (c : Noise) : Nat :=
  if c.enabled then (!c.lfsr.getLsbD 0).toNat * c.volume.toNat else 0

/-- `DacOut(k)` for k = 1..4 (R532). -/
def Sound.dacOuts (s : Sound) : List Nat :=
  [ if dacOn s.regs.nr12 then s.ch1.dig s.regs.nr11 else 0,
    if dacOn s.regs.nr22 then s.ch2.dig s.regs.nr21 else 0,
    if dacOn3 s.regs.nr30 then s.ch3.dig else 0,
    if dacOn s.regs.nr42 then s.ch4.dig else 0 ]

/-- The sum of the outputs whose panning bit, counted from `first`, is set (R536). -/
def panned (nr51 : Byte) : Nat → List Nat → Nat
  | _, [] => 0
  | k, v :: vs => (if nr51.getLsbD k then v else 0) + panned nr51 (k + 1) vs

/-- `EmitSample()` (R536): the pair of sums (left, right); a block that holds `P_SAMPLE_BLOCK` pairs is published and
emptied (R538). NR50 has no effect (R537). -/
def Sound.emitSample (cfg : Params) (s : Sound) : Sound :=
  let outs := s.dacOuts
  let block := s.out.block ++ [(panned s.regs.nr51 4 outs, panned s.regs.nr51 0 outs)]
  if block.length = cfg.sampleBlock then
    { s with out.block := [], out.published := s.out.published ++ [block] }
  else { s with out.block := block }

/-- `SoundTick()` (R520). -/
def Sound.tick (cfg : Params) (s : Sound) : Sound :=
  let s := s.genTicks
  if s.out.counter + 1 = cfg.sampleInterval then ({ s with out.counter := 0 }).emitSample cfg
  else { s with out.counter := s.out.counter + 1 }

/-- `SoundAdvance(t)` (R520). -/
def Sound.advance (cfg : Params) : Nat → Sound → Sound
  | 0, s => s
  | t + 1, s => Sound.advance cfg t (s.tick cfg)

/-! ## Register reads and writes -/

/-- NR52 read (R479): `{snd_power, 0b111, ch[4..1].enabled}`. -/
def Sound.readNR52 (s : Sound) : Byte :=
  bit s.power ++ 0b111#3 ++ bit s.ch4.enabled ++ bit s.ch3.enabled ++ bit s.ch2.enabled ++ bit s.ch1.enabled

/-- The read of the sound register at 0xFF00 + `off`: `backing | mask` (R479); none where there is no register. -/
def Sound.read (s : Sound) : Nat → Option Byte
  | 0x10 => some (s.regs.nr10 ||| 0x80)
  | 0x11 => some (s.regs.nr11 ||| 0x3F)
  | 0x12 => some (s.regs.nr12 ||| 0x00)
  | 0x13 => some (s.regs.nr13 ||| 0xFF)
  | 0x14 => some (s.regs.nr14 ||| 0xBF)
  | 0x16 => some (s.regs.nr21 ||| 0x3F)
  | 0x17 => some (s.regs.nr22 ||| 0x00)
  | 0x18 => some (s.regs.nr23 ||| 0xFF)
  | 0x19 => some (s.regs.nr24 ||| 0xBF)
  | 0x1A => some (s.regs.nr30 ||| 0x7F)
  | 0x1B => some (s.regs.nr31 ||| 0xFF)
  | 0x1C => some (s.regs.nr32 ||| 0x9F)
  | 0x1D => some (s.regs.nr33 ||| 0xFF)
  | 0x1E => some (s.regs.nr34 ||| 0xBF)
  | 0x20 => some (s.regs.nr41 ||| 0xFF)
  | 0x21 => some (s.regs.nr42 ||| 0x00)
  | 0x22 => some (s.regs.nr43 ||| 0x00)
  | 0x23 => some (s.regs.nr44 ||| 0xBF)
  | 0x24 => some (s.regs.nr50 ||| 0x00)
  | 0x25 => some (s.regs.nr51 ||| 0x00)
  | 0x26 => some s.readNR52
  | _ => none

/-- Power off (R488): every backing byte NR10 to NR51 becomes 0, every channel is disabled, the internal counters keep
their values. The envelopes in use become those of the cleared NRk2 (notes/assumptions/21.md). -/
def Sound.powerOff (s : Sound) : Sound :=
  { s with
    regs := {
      nr10 := 0, nr11 := 0, nr12 := 0, nr13 := 0, nr14 := 0
      nr21 := 0, nr22 := 0, nr23 := 0, nr24 := 0
      nr30 := 0, nr31 := 0, nr32 := 0, nr33 := 0, nr34 := 0
      nr41 := 0, nr42 := 0, nr43 := 0, nr44 := 0
      nr50 := 0, nr51 := 0 }
    power := false
    ch1.enabled := false, ch1.env := Envelope.reset
    ch2.enabled := false, ch2.env := Envelope.reset
    ch3.enabled := false
    ch4.enabled := false, ch4.env := Envelope.reset }

/-- Power on (R488). -/
def Sound.powerOn (s : Sound) : Sound :=
  { s with
    power := true
    fsStep := 0
    ch1.dutyPos := 0
    ch2.dutyPos := 0
    ch3.wavePos := 0 }

/-- Write to NR52 (R488): only bit 7 is writable. -/
def Sound.writeNR52 (v : Byte) (s : Sound) : Sound :=
  match s.power, v.getLsbD 7 with
  | true, false => s.powerOff
  | false, true => s.powerOn
  | _, _ => s

/-- The write to the sound register at 0xFF00 + `off`, NR10 to NR51, with the power on (R480 to R487). -/
def Sound.writeOn (off : Nat) (v : Byte) (s : Sound) : Sound :=
  let v' := v &&& 0x7F
  let trig := v.getLsbD 7
  match off with
  | 0x10 => { s with regs.nr10 := v }
  | 0x11 => { s with regs.nr11 := v, ch1.length := 64 - v.toNat % 64 }
  | 0x12 => { s with regs.nr12 := v, ch1.enabled := s.ch1.enabled && dacOn v }
  | 0x13 => { s with regs.nr13 := v }
  | 0x14 =>
    let s := { s with regs.nr14 := v' }
    if trig then s.trigger1 else s
  | 0x16 => { s with regs.nr21 := v, ch2.length := 64 - v.toNat % 64 }
  | 0x17 => { s with regs.nr22 := v, ch2.enabled := s.ch2.enabled && dacOn v }
  | 0x18 => { s with regs.nr23 := v }
  | 0x19 =>
    let s := { s with regs.nr24 := v' }
    if trig then s.trigger2 else s
  | 0x1A => { s with regs.nr30 := v, ch3.enabled := s.ch3.enabled && dacOn3 v }
  | 0x1B => { s with regs.nr31 := v, ch3.length := 256 - v.toNat }
  | 0x1C => { s with regs.nr32 := v }
  | 0x1D => { s with regs.nr33 := v }
  | 0x1E =>
    let s := { s with regs.nr34 := v' }
    if trig then s.trigger3 else s
  | 0x20 => { s with regs.nr41 := v, ch4.length := 64 - v.toNat % 64 }
  | 0x21 => { s with regs.nr42 := v, ch4.enabled := s.ch4.enabled && dacOn v }
  | 0x22 => { s with regs.nr43 := v }
  | 0x23 =>
    let s := { s with regs.nr44 := v' }
    if trig then s.trigger4 else s
  | 0x24 => { s with regs.nr50 := v }
  | 0x25 => { s with regs.nr51 := v }
  | _ => s

/-- A sound register write (R480): with the power off NR10 to NR51 ignore writes; NR52 (0xFF26) is always writable. -/
def Sound.write (off : Nat) (v : Byte) (s : Sound) : Sound :=
  if off = 0x26 then s.writeNR52 v
  else if s.power then s.writeOn off v
  else s

end Sys2Proof.Machine
end

