-- ==== Sys2Proof/Machine/Timer.lean ====
section
/-! DEFINITION. The interrupt lines and the timer (60_exceptions.md R403, R407; 61_timer_and_sound.md R460 to R471). -/

namespace Sys2Proof.Machine

/-! ## Interrupt lines -/

/-- The number of an interrupt line, which is its bit in IF and IE (10_state.md R42; 60_exceptions.md R415). -/
def Line.index : Line → Nat
  | .vblank => 0
  | .stat => 1
  | .timer => 2
  | .serial => 3
  | .joypad => 4

/-- The mask of a line's bit in IF. -/
def Line.mask : Line → BitVec 5
  | .vblank => 0b00001
  | .stat => 0b00010
  | .timer => 0b00100
  | .serial => 0b01000
  | .joypad => 0b10000

/-- `RequestInterrupt(i)` on the controller: `IF[i] <- 1` (60_exceptions.md R403). -/
def Irq.request (q : Irq) (l : Line) : Irq := { q with ifr := q.ifr ||| l.mask }

/-- A request that is made only under a condition. -/
def Irq.requestIf (q : Irq) (b : Bool) (l : Line) : Irq := if b then q.request l else q

/-! ## The timer -/

/-- The divider bit that `TAC[1:0]` selects (61_timer_and_sound.md R462). -/
def selBit (tac : BitVec 3) : Nat :=
  match tac.toNat % 4 with
  | 0 => 9
  | 1 => 3
  | 2 => 5
  | _ => 7

/-- `TimerSignal(d)`: the selected bit ANDed with the enable `TAC[2]` (R462). -/
def timerSignal (tac : BitVec 3) (d : Word) : Bool := d.getLsbD (selBit tac) && tac.getLsbD 2

/-- `TimaIncrement()` (R464). -/
def Timer.increment (t : Timer) : Timer :=
  if t.tima = 0xFF then { t with tima := 0x00, reloadPending := true } else { t with tima := t.tima + 1 }

/-- The increment a 1→0 transition of the signal makes. -/
def Timer.incrementOnFall (before after : Bool) (t : Timer) : Timer :=
  if before && !after then t.increment else t

/-- Step (1) of `TimerAdvance`: the reload that an overflow left pending (R461, R463). -/
def Timer.reload (t : Timer) : Timer :=
  if t.reloadPending then { t with tima := t.tma, reloadPending := false } else t

/-- The part of `TimerAdvance(ticks)` that is the timer's own: reload, add, increment on a falling edge (R461). -/
def Timer.advance (ticks : Nat) (t : Timer) : Timer :=
  let old := t.div16
  let new := old + BitVec.ofNat 16 ticks
  ({ t.reload with div16 := new }).incrementOnFall (timerSignal t.tac old) (timerSignal t.tac new)

/-- `FsBit(d)`: bit 12 in Normal speed, bit 13 in Double speed (R470). -/
def fsBit (sp : Speed) (d : Word) : Bool :=
  match sp with
  | .normal => d.getLsbD 12
  | .double => d.getLsbD 13

/-- The frame sequencer steps on a 1→0 transition of `FsBit` (R461 step (4)). -/
def Sound.stepOnFall (before after : Bool) (s : Sound) : Sound :=
  if before && !after then s.frameSequencerStep else s

/-- `TimerAdvance(ticks)` (R461): the timer, the timer interrupt of a pending reload, the frame sequencer. -/
def timerAdvance (ticks : Nat) (s : State) : State :=
  let t := s.timer.advance ticks
  { s with
    timer := t
    irq := s.irq.requestIf s.timer.reloadPending .timer
    sound := s.sound.stepOnFall (fsBit s.cpu.speed s.timer.div16) (fsBit s.cpu.speed t.div16) }

/-- `DivReset()` (R466): a write to DIV, and STOP. After the reset every bit is 0. -/
def divReset (s : State) : State :=
  let old := s.timer.div16
  { s with
    timer := ({ s.timer with div16 := 0 }).incrementOnFall (timerSignal s.timer.tac old) false
    sound := s.sound.stepOnFall (fsBit s.cpu.speed old) false }

/-- Write to TIMA: stores the byte and cancels a pending reload (R467). -/
def Timer.writeTima (v : Byte) (t : Timer) : Timer := { t with tima := v, reloadPending := false }

/-- Write to TAC: the edge that the change of select or enable makes is evaluated at the write (R468). -/
def Timer.writeTac (v : Byte) (t : Timer) : Timer :=
  let tac : BitVec 3 := v.extractLsb' 0 3
  ({ t with tac := tac }).incrementOnFall (timerSignal t.tac t.div16) (timerSignal tac t.div16)

end Sys2Proof.Machine
end

