-- ==== Sys2Proof/Machine/Bus.lean ====
section
/-! DEFINITION. The bus dispatcher (20_memory.md R80 to R151): the address map, the I/O window, the copies, the status
line and the joypad lines. -/

namespace Sys2Proof.Machine

/-! ## The address map (R81) -/

/-- The regions of the address space, in the order of the map. -/
inductive Region where
  | rom | vram | xram | wram0 | wramX | echo | oam | unusable | io | hram | ie
deriving DecidableEq, Repr

/-- The region of an address. The map covers every address, so the function is total and has no default arm (R81, R83). -/
def regionOf (a : Word) : Region :=
  let n := a.toNat
  if n < 0x8000 then .rom
  else if n < 0xA000 then .vram
  else if n < 0xC000 then .xram
  else if n < 0xD000 then .wram0
  else if n < 0xE000 then .wramX
  else if n < 0xFE00 then .echo
  else if n < 0xFEA0 then .oam
  else if n < 0xFF00 then .unusable
  else if n < 0xFF80 then .io
  else if n < 0xFFFF then .hram
  else .ie

/-- The work-RAM bank mapped at 0xD000: `svbk = 0 ? 1 : svbk` (10_state.md R49). -/
def BusRegs.wbank (b : BusRegs) : Nat := if b.svbk = 0 then 1 else b.svbk.toNat

/-- The key of the work-RAM cell of an address in 0xC000–0xDFFF (R95, R96). -/
def BusRegs.wramKey (b : BusRegs) (a : Word) : Nat :=
  if a.toNat < 0xD000 then a.toNat - 0xC000 else b.wbank * 0x1000 + (a.toNat - 0xD000)

/-- The address an echo address is redirected to (R97). -/
def unecho (a : Word) : Word := a - 0x2000

/-- The key of the video-RAM cell of a 13-bit offset in the mapped bank (R93). -/
def BusRegs.vramKey (b : BusRegs) (off : Nat) : Nat := b.vbk.toNat * 0x2000 + off

/-! ## Joypad lines (10_state.md R44; 60_exceptions.md R440) -/

/-- `lines[3:0]`, active low: 0 is pressed and selected. -/
def Joypad.lines (j : Joypad) : BitVec 4 :=
  ~~~((if j.sel.getLsbD 0 then 0#4 else j.joy.extractLsb' 0 4) |||
    (if j.sel.getLsbD 1 then 0#4 else j.joy.extractLsb' 4 4))

/-- `JoypadEvaluate()`: a 1→0 transition of a line requests the joypad interrupt. -/
def joypadEvaluate (s : State) : State :=
  let new := s.joypad.lines
  { s with
    joypad.prev := new
    irq := s.irq.requestIf (decide (s.joypad.prev &&& ~~~new ≠ 0)) .joypad }

/-! ## The latched status line (R146) -/

/-- `StatUpdate()`: a 0→1 transition of the line requests the status interrupt. -/
def statUpdate (s : State) : State :=
  let new := s.ppu.statCond
  { s with
    bus.statLine := new
    irq := s.irq.requestIf (!s.bus.statLine && new) .stat }

/-! ## Reads (R90, R110) -/

/-- The registers of R110 that exist in both modes and belong to neither the sound unit nor the pixel port. -/
def mainRegRead (s : State) : Nat → Option Byte
  | 0x00 => some (0b11#2 ++ s.joypad.sel ++ s.joypad.lines)
  | 0x01 => some s.serial.sb
  | 0x02 =>
    some (s.serial.sc ||| (match s.cfg.mode with | .mono => 0b01111110 | .color => 0b01111100))
  | 0x04 => some (hi s.timer.div16)
  | 0x05 => some s.timer.tima
  | 0x06 => some s.timer.tma
  | 0x07 => some (0b11111#5 ++ s.timer.tac)
  | 0x0F => some (0b111#3 ++ s.irq.ifr)
  | 0x46 => some s.bus.dmaReg
  | _ => none

/-- WAVE, 0xFF30–0xFF3F. -/
def waveRead (s : State) (off : Nat) : Option Byte :=
  if 0x30 ≤ off ∧ off ≤ 0x3F then some (cell .wave s.ram.wave (off - 0x30)) else none

/-- Reads of a palette index register (R143). -/
def PaletteIndex.read (p : PaletteIndex) : Byte := bit p.autoinc ++ 1#1 ++ p.idx

/-- The registers of R110 marked C, in Color mode. HDMA1 to HDMA4 read `P_FILL` and are not listed (R120 to R122, R140,
R143). -/
def colorRegRead (s : State) : Nat → Option Byte
  | 0x4D => some (bit (decide (s.cpu.speed = .double)) ++ 0b111111#6 ++ bit s.cpu.speedArmed)
  | 0x4F => some (0b1111111#7 ++ s.bus.vbk)
  | 0x55 => some (bit (!s.hdma.active) ++ s.hdma.remaining)
  | 0x68 => some s.bus.bcps.read
  | 0x69 => some (cell .bgpal s.ram.bgpal s.bus.bcps.idx.toNat)
  | 0x6A => some s.bus.ocps.read
  | 0x6B => some (cell .obpal s.ram.obpal s.bus.ocps.idx.toNat)
  | 0x70 => some (0b11111#5 ++ s.bus.svbk)
  | _ => none

/-- In Mono mode the color registers are unmapped (R119). -/
def colorRead (s : State) (off : Nat) : Option Byte :=
  match s.cfg.mode with
  | .mono => none
  | .color => colorRegRead s off

/-- A read in the I/O window 0xFF00–0xFF7F at offset `off`; an address with no register reads `P_FILL` (R110, R118). -/
def ioRead (s : State) (off : Nat) : Byte :=
  ((((mainRegRead s off).or (s.sound.read off)).or (s.ppu.read off)).or
    ((waveRead s off).or (colorRead s off))).getD s.cfg.fill

/-- `BusRead(addr)` (R90): no side effect and no fault (R88). -/
def busRead (s : State) (a : Word) : Byte :=
  match regionOf a with
  | .rom => s.cart.read s.cfg.fill a
  | .vram => cell .vram s.ram.vram (s.bus.vramKey (a.toNat - 0x8000))
  | .xram => s.cart.read s.cfg.fill a
  | .wram0 => cell .wram s.ram.wram (s.bus.wramKey a)
  | .wramX => cell .wram s.ram.wram (s.bus.wramKey a)
  | .echo => cell .wram s.ram.wram (s.bus.wramKey (unecho a))
  | .oam => cell .oam s.ram.oam (a.toNat - 0xFE00)
  | .unusable => s.cfg.fill
  | .io => ioRead s (a.toNat - 0xFF00)
  | .hram => cell .hram s.ram.hram (a.toNat - 0xFF80)
  | .ie => s.irq.ie

/-! ## The object-attribute copy (R130) -/

/-- Copy `n` bytes, in order, to OAM from index `i` on; the source is read through the ordinary routing. -/
def copyToOam : Nat → Nat → Word → State → State
  | 0, _, _, s => s
  | n + 1, i, src, s => copyToOam n (i + 1) (src + 1) { s with ram.oam := s.ram.oam.set i (busRead s src) }

/-- A write to DMA: the whole copy happens inside the write. -/
def oamDma (v : Byte) (s : State) : State :=
  copyToOam 160 0 (word v 0x00) { s with bus.dmaReg := v }

/-! ## The VRAM transfer (R135 to R140) -/

/-- `vt_src = {HDMA1, HDMA2} & 0xFFF0`. -/
def Hdma.vtSrc (d : Hdma) : Word := word d.h1 d.h2 &&& 0xFFF0

/-- `vt_dst = 0x8000 | ({HDMA3, HDMA4} & 0x1FF0)`. -/
def Hdma.vtDst (d : Hdma) : Word := 0x8000 ||| (word d.h3 d.h4 &&& 0x1FF0)

/-- Copy `n` bytes, in order, to the mapped video-RAM bank; the destination wraps inside video RAM. -/
def copyToVram : Nat → Word → Word → State → State
  | 0, _, _, s => s
  | n + 1, src, dst, s =>
    copyToVram n (src + 1) (dst + 1)
      { s with ram.vram := s.ram.vram.set (s.bus.vramKey ((dst - 0x8000).toNat % 0x2000)) (busRead s src) }

/-- `CopyBlock(s, d)`: one 16-byte block (R135). -/
def copyBlock (src dst : Word) (s : State) : State := copyToVram 16 src dst s

/-- The repeated blocks of a general-purpose transfer (R137). -/
def copyBlocks : Nat → Word → Word → State → State
  | 0, _, _, s => s
  | n + 1, src, dst, s => copyBlocks n (src + 16) (dst + 16) (copyBlock src dst s)

/-- The general-purpose transfer of a write to HDMA5 with bit 7 clear (R137). -/
def hdmaGeneral (v : Byte) (s : State) : State :=
  let s := copyBlocks (v.toNat % 128 + 1) s.hdma.vtSrc s.hdma.vtDst s
  { s with hdma := { s.hdma with active := false, remaining := 0x7F } }

/-- The arming of the HBlank-gated transfer (R138). -/
def Hdma.arm (v : Byte) (d : Hdma) : Hdma :=
  { d with active := true, remaining := v.extractLsb' 0 7, src := d.vtSrc, dst := d.vtDst }

/-- The bookkeeping after an HBlank block (R139). -/
def Hdma.blockDone (d : Hdma) : Hdma :=
  let d := { d with src := d.src + 16, dst := d.dst + 16 }
  if d.remaining = 0 then { d with active := false, remaining := 0x7F }
  else { d with remaining := d.remaining - 1 }

/-- The block copy of the end-of-horizontal-blank event (R139). -/
def hblankBlock (s : State) : State :=
  if s.hdma.active then
    let s := copyBlock s.hdma.src s.hdma.dst s
    { s with hdma := s.hdma.blockDone }
  else s

/-- A write to HDMA5 (R136). -/
def writeHdma5 (v : Byte) (s : State) : State :=
  if s.hdma.active && !v.getLsbD 7 then { s with hdma.active := false }
  else if !v.getLsbD 7 then hdmaGeneral v s
  else { s with hdma := s.hdma.arm v }

/-! ## Writes (R91, R110) -/

/-- A write to a palette index register (R142). -/
def PaletteIndex.write (v : Byte) : PaletteIndex where
  idx := v.extractLsb' 0 6
  autoinc := v.getLsbD 7

/-- The index after a write to the data register (R141). -/
def PaletteIndex.afterData (p : PaletteIndex) : PaletteIndex :=
  if p.autoinc then { p with idx := p.idx + 1 } else p

/-- The writes of the registers marked C, in Color mode (R120 to R122, R136, R141, R142). -/
def colorRegWrite (off : Nat) (v : Byte) (s : State) : State :=
  match off with
  | 0x4D => { s with cpu.speedArmed := v.getLsbD 0 }
  | 0x4F => { s with bus.vbk := v.extractLsb' 0 1 }
  | 0x51 => { s with hdma.h1 := v }
  | 0x52 => { s with hdma.h2 := v }
  | 0x53 => { s with hdma.h3 := v }
  | 0x54 => { s with hdma.h4 := v }
  | 0x55 => writeHdma5 v s
  | 0x68 => { s with bus.bcps := PaletteIndex.write v }
  | 0x69 =>
    { s with
      ram.bgpal := s.ram.bgpal.set s.bus.bcps.idx.toNat v
      bus.bcps := s.bus.bcps.afterData }
  | 0x6A => { s with bus.ocps := PaletteIndex.write v }
  | 0x6B =>
    { s with
      ram.obpal := s.ram.obpal.set s.bus.ocps.idx.toNat v
      bus.ocps := s.bus.ocps.afterData }
  | 0x70 => { s with bus.svbk := v.extractLsb' 0 3 }
  | _ => s

/-- In Mono mode a write to a color register is ignored (R119). -/
def colorWrite (off : Nat) (v : Byte) (s : State) : State :=
  match s.cfg.mode with
  | .mono => s
  | .color => colorRegWrite off v s

/-- A write to an LCD register; after STAT and LYC the status line is recomputed (R117, R146). -/
def lcdWrite (off : Nat) (v : Byte) (s : State) : State :=
  let s := { s with ppu := s.ppu.write off v }
  if off = 0x41 ∨ off = 0x45 then statUpdate s else s

/-- A write in the I/O window at offset `off`; an address with no register ignores it (R110, R118). -/
def ioWrite (off : Nat) (v : Byte) (s : State) : State :=
  if 0x10 ≤ off ∧ off ≤ 0x26 then { s with sound := s.sound.write off v }
  else if 0x30 ≤ off ∧ off ≤ 0x3F then { s with ram.wave := s.ram.wave.set (off - 0x30) v }
  else if off = 0x46 then oamDma v s
  else if 0x40 ≤ off ∧ off ≤ 0x4B then lcdWrite off v s
  else
    match off with
    | 0x00 => joypadEvaluate { s with joypad.sel := v.extractLsb' 4 2 }
    | 0x01 => { s with serial.sb := v }
    | 0x02 => { s with serial.sc := v }
    | 0x04 => divReset s
    | 0x05 => { s with timer := s.timer.writeTima v }
    | 0x06 => { s with timer.tma := v }
    | 0x07 => { s with timer := s.timer.writeTac v }
    | 0x0F => { s with irq.ifr := v.extractLsb' 0 5 }
    | _ => colorWrite off v s

/-- `BusWrite(addr, v)` (R91). -/
def busWrite (a : Word) (v : Byte) (s : State) : State :=
  match regionOf a with
  | .rom => { s with cart := s.cart.write a v }
  | .vram => { s with ram.vram := s.ram.vram.set (s.bus.vramKey (a.toNat - 0x8000)) v }
  | .xram => { s with cart := s.cart.write a v }
  | .wram0 => { s with ram.wram := s.ram.wram.set (s.bus.wramKey a) v }
  | .wramX => { s with ram.wram := s.ram.wram.set (s.bus.wramKey a) v }
  | .echo => { s with ram.wram := s.ram.wram.set (s.bus.wramKey (unecho a)) v }
  | .oam => { s with ram.oam := s.ram.oam.set (a.toNat - 0xFE00) v }
  | .unusable => s
  | .io => ioWrite (a.toNat - 0xFF00) v s
  | .hram => { s with ram.hram := s.ram.hram.set (a.toNat - 0xFF80) v }
  | .ie => { s with irq.ie := v }

end Sys2Proof.Machine
end

