-- ==== Sys2Proof/Machine/Ops.lean ====
section
/-! DEFINITION. The primitives of 00_scope.md R12 to R18 over the whole machine: the machine cycle, memory accesses,
fetches, the stack, the fatal fault, and taking an interrupt and returning from one (60_exceptions.md). -/

namespace Sys2Proof.Machine

/-! ## The machine cycle (60_exceptions.md R401) -/

/-- Ticks of the sound unit, the pixel unit and the cartridge clock in one machine cycle (R401). -/
def ticksPerCycle : Speed → Nat
  | .normal => 4
  | .double => 2

/-- Ticks of the timer in one machine cycle, in both speeds (R401; 90_conflicts.md C1). -/
def timerTicks : Nat := 4

/-- What `Cycle()` does about the events of the pixel port, in its order. -/
def pixelEvents (e : Events) (s : State) : State :=
  let s := { s with irq := s.irq.requestIf e.vblankEntry .vblank }
  let s := if e.hblankEnd then hblankBlock s else s
  if e.modeChanged || e.lyChanged then statUpdate s else s

/-- `PpuAdvance(t)` and the events it reports. -/
def pixelAdvance (t : Nat) (s : State) : State :=
  let r := s.ppu.advance t
  pixelEvents r.2 { s with ppu := r.1 }

/-- `SoundAdvance(t)`. -/
def soundAdvance (t : Nat) (s : State) : State := { s with sound := s.sound.advance s.cfg t }

/-- `CartAdvance(t)`. -/
def cartAdvance (t : Nat) (s : State) : State :=
  let r := s.cart.advance t s.freeCount
  { s with cart := r.1, freeCount := r.2 }

/-- `Cycle()` (R401; 00_scope.md R12), and one more in the ghost counter (R402). -/
def cycle (s : State) : State :=
  let t := ticksPerCycle s.cpu.speed
  let s := cartAdvance t (pixelAdvance t (soundAdvance t (timerAdvance timerTicks s)))
  { s with cycles := s.cycles + 1 }

/-! ## Accesses (00_scope.md R13 to R17) -/

/-- `Internal()` (R15). -/
def internal (s : State) : State := cycle s

/-- `MemRead(addr, 1)`: the advance comes before the access (R13). -/
def memRead (a : Word) (s : State) : Byte × State := (busRead (cycle s) a, cycle s)

/-- `MemWrite(addr, 1, v)` (R13). -/
def memWrite (a : Word) (v : Byte) (s : State) : State := busWrite a v (cycle s)

/-- `MemWrite(addr, 2, v)`: low byte first, then high byte (R14). -/
def memWrite16 (a : Word) (v : Word) (s : State) : State := memWrite (a + 1) (hi v) (memWrite a (lo v) s)

/-- `pc` moved past a byte. -/
def advancePc (s : State) : State := { s with cpu.pc := s.cpu.pc + 1 }

/-- `Fetch8()` (R16). -/
def fetch8 (s : State) : Byte × State :=
  let r := memRead s.cpu.pc s
  (r.1, advancePc r.2)

/-- So many `Fetch8()` in a row, the bytes in the order of their addresses. -/
def fetchBytes : Nat → State → List Byte × State
  | 0, s => ([], s)
  | n + 1, s =>
    let r := fetch8 s
    let rs := fetchBytes n r.2
    (r.1 :: rs.1, rs.2)

/-- One byte pushed: `sp <- sp − 1; MemWrite(sp, 1, v)`. -/
def pushByte (v : Byte) (s : State) : State :=
  let s := { s with cpu.sp := s.cpu.sp - 1 }
  memWrite s.cpu.sp v s

/-- `Push16(v)`: high byte first, at the higher address (R17). -/
def push16 (v : Word) (s : State) : State := pushByte (lo v) (pushByte (hi v) s)

/-- One byte popped: `v <- MemRead(sp, 1); sp <- sp + 1`. -/
def popByte (s : State) : Byte × State :=
  let r := memRead s.cpu.sp s
  (r.1, { r.2 with cpu.sp := r.2.cpu.sp + 1 })

/-- `Pop16()` (R17). -/
def pop16 (s : State) : Word × State :=
  let l := popByte s
  let h := popByte l.2
  (word h.1 l.1, h.2)

/-! ## The fatal fault (00_scope.md R18; 60_exceptions.md R430) -/

/-- `raise Fatal(kind, info)`: sets the sticky fault and changes nothing else. -/
def raiseFatal (f : Fatal) (s : State) : State := { s with cpu.fault := some f }

/-! ## Interrupts (60_exceptions.md R403 to R415) -/

/-- `IF & IE & 0x1F`. -/
def Irq.pending (q : Irq) : BitVec 5 := q.ifr &&& q.ie.extractLsb' 0 5

/-- The lowest-numbered bit set, or none (R404, R410). -/
def lowestLine (p : BitVec 5) : Option Line :=
  if p.getLsbD 0 then some .vblank
  else if p.getLsbD 1 then some .stat
  else if p.getLsbD 2 then some .timer
  else if p.getLsbD 3 then some .serial
  else if p.getLsbD 4 then some .joypad
  else none

/-- `Vector(i) = 0x0040 + 8·i` (R407). -/
def Line.vector (l : Line) : Word := BitVec.ofNat 16 (0x0040 + 8 * l.index)

/-- `IF[i] <- 0`. -/
def Irq.clear (q : Irq) (l : Line) : Irq := { q with ifr := q.ifr &&& ~~~l.mask }

/-- TAKING AN INTERRUPT, the one exception of the machine that goes to a handler: `Dispatch(i)` (R405). The master enable is
cleared, two internal cycles pass, pc is pushed high byte first; the collision with the enable register is tested once,
between the two pushes, on the new IE (R408). An aborted dispatch leaves the pending bit and goes to 0x0000. -/
def dispatch (l : Line) (s : State) : State :=
  let s := internal (internal { s with cpu.ime := false })
  let ret := s.cpu.pc
  let s := pushByte (hi ret) s
  let aborted := decide (s.cpu.sp = 0xFFFF) && !s.irq.ie.getLsbD l.index
  let s := pushByte (lo ret) s
  let s :=
    if aborted then { s with cpu.pc := 0x0000 }
    else { s with cpu.pc := l.vector, irq := s.irq.clear l }
  if s.cfg.irqTail then internal s else s

/-- `InterruptCheck()` (R404): the deferred set of EI, which makes no check in this step; else at most one dispatch. -/
def interruptCheck (s : State) : State :=
  if s.cpu.eiDelay then { s with cpu.ime := true, cpu.eiDelay := false }
  else if s.cpu.ime then
    match lowestLine s.irq.pending with
    | some l => dispatch l s
    | none => s
  else s

/-- The return of a subroutine: `v <- Pop16(); Internal(); pc <- v` (45_control_transfer.md R357). -/
def popPc (s : State) : State :=
  let r := pop16 s
  let s := internal r.2
  { s with cpu.pc := r.1 }

/-- RETURNING FROM AN INTERRUPT (R412; 45_control_transfer.md R359): pc from the stack, and the master enable set at once. F
is not restored, because the dispatch did not save it. -/
def returnFromInterrupt (s : State) : State :=
  let s := popPc s
  { s with cpu.ime := true }

/-! ## The parts of a step before the fetch (60_exceptions.md R400, R420 to R426) -/

/-- What happens before the interrupt check. -/
inductive Ready where
  /-- The step ends here: Paused, Stopped with no line asserted, or one more cycle of the halted wait. -/
  | waits (s : State)
  /-- The processor is Active and the step goes on. -/
  | goes (s : State)
deriving DecidableEq, Repr

/-- The halted wait, one iteration a step (R420, R422; notes/assumptions/2.md): the advance comes before the test, and the
master enable is not part of it. -/
def haltedWait (s : State) : Ready :=
  let s := cycle s
  if s.irq.pending ≠ 0 then .goes { s with cpu.status := .active } else .waits s

/-- Parts (2) to (5) of `Step()` (R400): Paused changes nothing at all (R426); else the joypad is evaluated; Stopped ends when
a selected line is asserted (R425); Halted waits. -/
def wake (s : State) : Ready :=
  match s.cpu.status with
  | .paused => .waits s
  | .active => .goes (joypadEvaluate s)
  | .stopped =>
    let s := joypadEvaluate s
    if s.joypad.lines ≠ 0b1111 then .goes { s with cpu.status := .active } else .waits s
  | .halted => haltedWait (joypadEvaluate s)

/-! ## Placing bytes from outside (notes/assumptions/8.md) -/

/-- Place a byte in the memory behind an address under the present banking; addresses of registers, and of memory that is
absent, have nothing to hold it. -/
def poke (a : Word) (v : Byte) (s : State) : State :=
  match regionOf a with
  | .rom => { s with cart.rom := s.cart.rom.set (s.cart.romKey a) v }
  | .io => s
  | .ie => s
  | _ => busWrite a v s

/-- Place bytes at consecutive addresses. -/
def pokeList : Word → List Byte → State → State
  | _, [], s => s
  | a, v :: vs, s => pokeList (a + 1) vs (poke a v s)

end Sys2Proof.Machine
end

