-- ==== Sys2Proof/Machine/Operands.lean ====
section
/-! DEFINITION. Every operand form of the instruction set, and each operation once over all its operand forms. The operations
act on the state in which all bytes of the instruction have been fetched (notes/assumptions/1.md). -/

namespace Sys2Proof.Machine

/-! ## Registers and pairs (00_scope.md R10; 10_state.md R30) -/

/-- Read a register. -/
def Cpu.get (p : Cpu) : Reg8 → Byte
  | .b => p.b
  | .c => p.c
  | .d => p.d
  | .e => p.e
  | .h => p.h
  | .l => p.l
  | .a => p.a

/-- Write a register. -/
def Cpu.set (p : Cpu) (r : Reg8) (v : Byte) : Cpu :=
  match r with
  | .b => { p with b := v }
  | .c => { p with c := v }
  | .d => { p with d := v }
  | .e => { p with e := v }
  | .h => { p with h := v }
  | .l => { p with l := v }
  | .a => { p with a := v }

/-- BC. -/
def Cpu.bc (p : Cpu) : Word := word p.b p.c

/-- DE. -/
def Cpu.de (p : Cpu) : Word := word p.d p.e

/-- HL. -/
def Cpu.hl (p : Cpu) : Word := word p.h p.l

/-- Read a pair or sp. -/
def Cpu.getPair (p : Cpu) : Pair → Word
  | .bc => p.bc
  | .de => p.de
  | .hl => p.hl
  | .sp => p.sp

/-- Write a pair, both halves, or sp. -/
def Cpu.setPair (p : Cpu) (q : Pair) (v : Word) : Cpu :=
  match q with
  | .bc => { p with b := hi v, c := lo v }
  | .de => { p with d := hi v, e := lo v }
  | .hl => { p with h := hi v, l := lo v }
  | .sp => { p with sp := v }

/-- Read the pair of PUSH (30_encoding.md R174). -/
def Cpu.getStack (p : Cpu) : StackPair → Word
  | .bc => p.bc
  | .de => p.de
  | .hl => p.hl
  | .af => word p.a p.flags.toByte

/-- Write the pair of POP; F takes the high four bits of its byte (41_load16_stack.md R235). -/
def Cpu.setStack (p : Cpu) (q : StackPair) (v : Word) : Cpu :=
  match q with
  | .bc => { p with b := hi v, c := lo v }
  | .de => { p with d := hi v, e := lo v }
  | .hl => { p with h := hi v, l := lo v }
  | .af => { p with a := hi v, flags := Flags.ofByte (lo v) }

/-- Write A and the flags. -/
def setAccFlags (r : Byte × Flags) (s : State) : State := { s with cpu.a := r.1, cpu.flags := r.2 }

/-- Write the flags. -/
def setFlags (f : Flags) (s : State) : State := { s with cpu.flags := f }

/-- Write a register. -/
def setReg (r : Reg8) (v : Byte) (s : State) : State := { s with cpu := s.cpu.set r v }

/-- Write a pair. -/
def setPair (q : Pair) (v : Word) (s : State) : State := { s with cpu := s.cpu.setPair q v }

/-- `pc <- target`. -/
def setPc (v : Word) (s : State) : State := { s with cpu.pc := v }

/-! ## The 8-bit operand: a register, or the byte at HL (30_encoding.md R173) -/

/-- Read the operand; (HL) costs a machine cycle. -/
def readOpd (o : Opd8) (s : State) : Byte × State :=
  match o with
  | .reg r => (s.cpu.get r, s)
  | .atHL => memRead s.cpu.hl s

/-- Write the operand; (HL) costs a machine cycle. -/
def writeOpd (o : Opd8) (v : Byte) (s : State) : State :=
  match o with
  | .reg r => setReg r v s
  | .atHL => memWrite s.cpu.hl v s

/-- The high-page address `{0xFF, n}` (40_load8.md R211 to R214). -/
def highPage (n : Byte) : Word := word 0xFF n

/-! ## 8-bit loads (40_load8.md) -/

/-- `LD` between two 8-bit operands (R200, R202, R203). The address HL is formed before the destination is written. -/
def loadOpd (dst src : Opd8) (s : State) : State :=
  let r := readOpd src s
  writeOpd dst r.1 r.2

/-- `LD` of an immediate byte (R201, R204). -/
def loadImm (dst : Opd8) (n : Byte) (s : State) : State := writeOpd dst n s

/-- `A <- MemRead(addr, 1)` (R205, R206, R209, R211, R213). -/
def loadA (a : Word) (s : State) : State :=
  let r := memRead a s
  setReg .a r.1 r.2

/-- `MemWrite(addr, 1, A)` (R207, R208, R210, R212, R214). -/
def storeA (a : Word) (s : State) : State := memWrite a s.cpu.a s

/-- HL after a post-increment or post-decrement load: the arithmetic of R301 and R302 without the internal cycle
(43_alu16.md R304). -/
def stepHL (f : Word → Word) (s : State) : State := setPair .hl (f s.cpu.hl) s

/-- `LD A,(HL±)`: A first, then HL (R215, R217). -/
def loadAStep (f : Word → Word) (s : State) : State := stepHL f (loadA s.cpu.hl s)

/-- `LD (HL±),A`: the store first, then HL (R216, R218). -/
def storeAStep (f : Word → Word) (s : State) : State := stepHL f (storeA s.cpu.hl s)

/-! ## 16-bit loads and the stack (41_load16_stack.md) -/

/-- `LD (nn),SP` (R231). -/
def storeSP (nn : Word) (s : State) : State := memWrite16 nn s.cpu.sp s

/-- `LD SP,HL` (R232). -/
def loadSPHL (s : State) : State := internal { s with cpu.sp := s.cpu.hl }

/-- `PUSH` (R233). -/
def pushPair (q : StackPair) (s : State) : State :=
  let s := internal s
  push16 (s.cpu.getStack q) s

/-- `POP` (R234, R235). -/
def popPair (q : StackPair) (s : State) : State :=
  let r := pop16 s
  { r.2 with cpu := r.2.cpu.setStack q r.1 }

/-- `LD HL,SP+e` (R236). -/
def loadHLSP (e : Byte) (s : State) : State :=
  let s := internal s
  setFlags (spFlags s.cpu.sp e) (setPair .hl (s.cpu.sp + sext16 e) s)

/-! ## 8-bit arithmetic and logic (42_alu8.md) -/

/-- One of the eight two-operand operations on A and a byte (R250 to R273). -/
def aluByte (op : AluOp) (v : Byte) (s : State) : State := setAccFlags (alu op s.cpu.a v s.cpu.flags) s

/-- The same on A and an operand. -/
def aluOpd (op : AluOp) (o : Opd8) (s : State) : State :=
  let r := readOpd o s
  aluByte op r.1 r.2

/-- `INC` (R274, R275). -/
def incOpd (o : Opd8) (s : State) : State :=
  let r := readOpd o s
  setFlags (incFlags r.1 s.cpu.flags) (writeOpd o (r.1 + 1) r.2)

/-- `DEC` (R276, R277). -/
def decOpd (o : Opd8) (s : State) : State :=
  let r := readOpd o s
  setFlags (decFlags r.1 s.cpu.flags) (writeOpd o (r.1 - 1) r.2)

/-! ## 16-bit arithmetic (43_alu16.md) -/

/-- `ADD HL,rr` (R300). -/
def addHL (q : Pair) (s : State) : State :=
  let x := s.cpu.hl
  let y := s.cpu.getPair q
  let f := addHLFlags x y s.cpu.flags
  setFlags f (setPair .hl (x + y) (internal s))

/-- `INC rr` (R301). -/
def incPair (q : Pair) (s : State) : State := internal (setPair q (incHalves (s.cpu.getPair q)) s)

/-- `DEC rr` (R302). -/
def decPair (q : Pair) (s : State) : State := internal (setPair q (decHalves (s.cpu.getPair q)) s)

/-- `ADD SP,e` (R303). -/
def addSP (e : Byte) (s : State) : State :=
  let old := s.cpu.sp
  setFlags (spFlags old e) (setPair .sp (old + sext16 e) (internal (internal s)))

/-! ## Rotates, shifts and bits (44_rotate_shift_bit.md) -/

/-- The four accumulator rotates (R310 to R313). -/
def rotA (op : RotOp) (s : State) : State :=
  let r := rotate op s.cpu.a s.cpu.flags.c
  setAccFlags (r.1, accRotFlags r) s

/-- The extended rotates and shifts (R314 to R329). -/
def rotOpd (op : RotOp) (o : Opd8) (s : State) : State :=
  let r := readOpd o s
  let q := rotate op r.1 s.cpu.flags.c
  setFlags (rotFlags q) (writeOpd o q.1 r.2)

/-- `BIT`: no write cycle (R330, R331). -/
def bitOpd (k : Nat) (o : Opd8) (s : State) : State :=
  let r := readOpd o s
  setFlags (bitFlags r.1 k s.cpu.flags) r.2

/-- `RES`: no flag (R332, R333). -/
def resOpd (k : Nat) (o : Opd8) (s : State) : State :=
  let r := readOpd o s
  writeOpd o (r.1 &&& ~~~(1#8 <<< k)) r.2

/-- `SET`: no flag (R334, R335). -/
def setOpd (k : Nat) (o : Opd8) (s : State) : State :=
  let r := readOpd o s
  writeOpd o (r.1 ||| (1#8 <<< k)) r.2

/-! ## Control transfer (45_control_transfer.md) -/

/-- An operation made only when a condition holds (R361). -/
def whenCond (cc : Cond) (f : State → State) (s : State) : State :=
  if condHolds cc s.cpu.flags then f s else s

/-- `Internal(); pc <- nn` (R350). -/
def jump (nn : Word) (s : State) : State := setPc nn (internal s)

/-- `Internal(); pc <- pc + sext_16(e)` (R353). -/
def jumpRel (e : Byte) (s : State) : State :=
  let s := internal s
  setPc (s.cpu.pc + sext16 e) s

/-- `Internal(); Push16(pc); pc <- nn` (R355, R360). -/
def callTo (nn : Word) (s : State) : State :=
  let s := internal s
  setPc nn (push16 s.cpu.pc s)

/-- `RET cc` after its first internal cycle, which is spent whether or not the condition holds (R358). -/
def returnIf (cc : Cond) (s : State) : State := whenCond cc popPc (internal s)

end Sys2Proof.Machine
end

