-- ==== Sys2Proof/Machine/Alu16.lean ====
section
/-! DEFINITION. 16-bit arithmetic (43_alu16.md R300 to R303). Each meaning acts on the state in
which all bytes of the instruction have been fetched (notes/assumptions/1.md). -/

namespace Sys2Proof.Machine

/-- `ADD HL,BC` (R300). -/
def execAddHLBC (s : State) : Result := .next (addHL .bc s)

/-- `ADD HL,DE` (R300). -/
def execAddHLDE (s : State) : Result := .next (addHL .de s)

/-- `ADD HL,HL` (R300). -/
def execAddHLHL (s : State) : Result := .next (addHL .hl s)

/-- `ADD HL,SP` (R300). -/
def execAddHLSP (s : State) : Result := .next (addHL .sp s)

/-- `INC BC` (R301). -/
def execIncBC (s : State) : Result := .next (incPair .bc s)

/-- `INC DE` (R301). -/
def execIncDE (s : State) : Result := .next (incPair .de s)

/-- `INC HL` (R301). -/
def execIncHL (s : State) : Result := .next (incPair .hl s)

/-- `INC SP` (R301). -/
def execIncSP (s : State) : Result := .next (incPair .sp s)

/-- `DEC BC` (R302). -/
def execDecBC (s : State) : Result := .next (decPair .bc s)

/-- `DEC DE` (R302). -/
def execDecDE (s : State) : Result := .next (decPair .de s)

/-- `DEC HL` (R302). -/
def execDecHL (s : State) : Result := .next (decPair .hl s)

/-- `DEC SP` (R302). -/
def execDecSP (s : State) : Result := .next (decPair .sp s)

/-- `ADD SP,e` (R303). -/
def execAddSPe (e : Byte) (s : State) : Result := .next (addSP e s)

end Sys2Proof.Machine
end

