-- ==== Sys2Proof/Machine/Alu8.lean ====
section
/-! DEFINITION. 8-bit arithmetic and logic (42_alu8.md R250 to R281). Each meaning acts on the state in
which all bytes of the instruction have been fetched (notes/assumptions/1.md). -/

namespace Sys2Proof.Machine

/-- `ADD A,B` (R250). -/
def execAddAB (s : State) : Result := .next (aluOpd .add (.reg .b) s)

/-- `ADD A,C` (R250). -/
def execAddAC (s : State) : Result := .next (aluOpd .add (.reg .c) s)

/-- `ADD A,D` (R250). -/
def execAddAD (s : State) : Result := .next (aluOpd .add (.reg .d) s)

/-- `ADD A,E` (R250). -/
def execAddAE (s : State) : Result := .next (aluOpd .add (.reg .e) s)

/-- `ADD A,H` (R250). -/
def execAddAH (s : State) : Result := .next (aluOpd .add (.reg .h) s)

/-- `ADD A,L` (R250). -/
def execAddAL (s : State) : Result := .next (aluOpd .add (.reg .l) s)

/-- `ADD A,A` (R250). -/
def execAddAA (s : State) : Result := .next (aluOpd .add (.reg .a) s)

/-- `ADD A,(HL)` (R251). -/
def execAddAMHL (s : State) : Result := .next (aluOpd .add .atHL s)

/-- `ADD A,n` (R252). -/
def execAddAn (n : Byte) (s : State) : Result := .next (aluByte .add n s)

/-- `ADC A,B` (R253). -/
def execAdcAB (s : State) : Result := .next (aluOpd .adc (.reg .b) s)

/-- `ADC A,C` (R253). -/
def execAdcAC (s : State) : Result := .next (aluOpd .adc (.reg .c) s)

/-- `ADC A,D` (R253). -/
def execAdcAD (s : State) : Result := .next (aluOpd .adc (.reg .d) s)

/-- `ADC A,E` (R253). -/
def execAdcAE (s : State) : Result := .next (aluOpd .adc (.reg .e) s)

/-- `ADC A,H` (R253). -/
def execAdcAH (s : State) : Result := .next (aluOpd .adc (.reg .h) s)

/-- `ADC A,L` (R253). -/
def execAdcAL (s : State) : Result := .next (aluOpd .adc (.reg .l) s)

/-- `ADC A,A` (R253). -/
def execAdcAA (s : State) : Result := .next (aluOpd .adc (.reg .a) s)

/-- `ADC A,(HL)` (R254). -/
def execAdcAMHL (s : State) : Result := .next (aluOpd .adc .atHL s)

/-- `ADC A,n` (R255). -/
def execAdcAn (n : Byte) (s : State) : Result := .next (aluByte .adc n s)

/-- `SUB B` (R256). -/
def execSubB (s : State) : Result := .next (aluOpd .sub (.reg .b) s)

/-- `SUB C` (R256). -/
def execSubC (s : State) : Result := .next (aluOpd .sub (.reg .c) s)

/-- `SUB D` (R256). -/
def execSubD (s : State) : Result := .next (aluOpd .sub (.reg .d) s)

/-- `SUB E` (R256). -/
def execSubE (s : State) : Result := .next (aluOpd .sub (.reg .e) s)

/-- `SUB H` (R256). -/
def execSubH (s : State) : Result := .next (aluOpd .sub (.reg .h) s)

/-- `SUB L` (R256). -/
def execSubL (s : State) : Result := .next (aluOpd .sub (.reg .l) s)

/-- `SUB A` (R256). -/
def execSubA (s : State) : Result := .next (aluOpd .sub (.reg .a) s)

/-- `SUB (HL)` (R257). -/
def execSubMHL (s : State) : Result := .next (aluOpd .sub .atHL s)

/-- `SUB n` (R258). -/
def execSubn (n : Byte) (s : State) : Result := .next (aluByte .sub n s)

/-- `SBC A,B` (R259). -/
def execSbcAB (s : State) : Result := .next (aluOpd .sbc (.reg .b) s)

/-- `SBC A,C` (R259). -/
def execSbcAC (s : State) : Result := .next (aluOpd .sbc (.reg .c) s)

/-- `SBC A,D` (R259). -/
def execSbcAD (s : State) : Result := .next (aluOpd .sbc (.reg .d) s)

/-- `SBC A,E` (R259). -/
def execSbcAE (s : State) : Result := .next (aluOpd .sbc (.reg .e) s)

/-- `SBC A,H` (R259). -/
def execSbcAH (s : State) : Result := .next (aluOpd .sbc (.reg .h) s)

/-- `SBC A,L` (R259). -/
def execSbcAL (s : State) : Result := .next (aluOpd .sbc (.reg .l) s)

/-- `SBC A,A` (R259). -/
def execSbcAA (s : State) : Result := .next (aluOpd .sbc (.reg .a) s)

/-- `SBC A,(HL)` (R260). -/
def execSbcAMHL (s : State) : Result := .next (aluOpd .sbc .atHL s)

/-- `SBC A,n` (R261). -/
def execSbcAn (n : Byte) (s : State) : Result := .next (aluByte .sbc n s)

/-- `AND B` (R262). -/
def execAndB (s : State) : Result := .next (aluOpd .and (.reg .b) s)

/-- `AND C` (R262). -/
def execAndC (s : State) : Result := .next (aluOpd .and (.reg .c) s)

/-- `AND D` (R262). -/
def execAndD (s : State) : Result := .next (aluOpd .and (.reg .d) s)

/-- `AND E` (R262). -/
def execAndE (s : State) : Result := .next (aluOpd .and (.reg .e) s)

/-- `AND H` (R262). -/
def execAndH (s : State) : Result := .next (aluOpd .and (.reg .h) s)

/-- `AND L` (R262). -/
def execAndL (s : State) : Result := .next (aluOpd .and (.reg .l) s)

/-- `AND A` (R262). -/
def execAndA (s : State) : Result := .next (aluOpd .and (.reg .a) s)

/-- `AND (HL)` (R263). -/
def execAndMHL (s : State) : Result := .next (aluOpd .and .atHL s)

/-- `AND n` (R264). -/
def execAndn (n : Byte) (s : State) : Result := .next (aluByte .and n s)

/-- `XOR B` (R265). -/
def execXorB (s : State) : Result := .next (aluOpd .xor (.reg .b) s)

/-- `XOR C` (R265). -/
def execXorC (s : State) : Result := .next (aluOpd .xor (.reg .c) s)

/-- `XOR D` (R265). -/
def execXorD (s : State) : Result := .next (aluOpd .xor (.reg .d) s)

/-- `XOR E` (R265). -/
def execXorE (s : State) : Result := .next (aluOpd .xor (.reg .e) s)

/-- `XOR H` (R265). -/
def execXorH (s : State) : Result := .next (aluOpd .xor (.reg .h) s)

/-- `XOR L` (R265). -/
def execXorL (s : State) : Result := .next (aluOpd .xor (.reg .l) s)

/-- `XOR A` (R265). -/
def execXorA (s : State) : Result := .next (aluOpd .xor (.reg .a) s)

/-- `XOR (HL)` (R266). -/
def execXorMHL (s : State) : Result := .next (aluOpd .xor .atHL s)

/-- `XOR n` (R267). -/
def execXorn (n : Byte) (s : State) : Result := .next (aluByte .xor n s)

/-- `OR B` (R268). -/
def execOrB (s : State) : Result := .next (aluOpd .or (.reg .b) s)

/-- `OR C` (R268). -/
def execOrC (s : State) : Result := .next (aluOpd .or (.reg .c) s)

/-- `OR D` (R268). -/
def execOrD (s : State) : Result := .next (aluOpd .or (.reg .d) s)

/-- `OR E` (R268). -/
def execOrE (s : State) : Result := .next (aluOpd .or (.reg .e) s)

/-- `OR H` (R268). -/
def execOrH (s : State) : Result := .next (aluOpd .or (.reg .h) s)

/-- `OR L` (R268). -/
def execOrL (s : State) : Result := .next (aluOpd .or (.reg .l) s)

/-- `OR A` (R268). -/
def execOrA (s : State) : Result := .next (aluOpd .or (.reg .a) s)

/-- `OR (HL)` (R269). -/
def execOrMHL (s : State) : Result := .next (aluOpd .or .atHL s)

/-- `OR n` (R270). -/
def execOrn (n : Byte) (s : State) : Result := .next (aluByte .or n s)

/-- `CP B` (R271). -/
def execCpB (s : State) : Result := .next (aluOpd .cp (.reg .b) s)

/-- `CP C` (R271). -/
def execCpC (s : State) : Result := .next (aluOpd .cp (.reg .c) s)

/-- `CP D` (R271). -/
def execCpD (s : State) : Result := .next (aluOpd .cp (.reg .d) s)

/-- `CP E` (R271). -/
def execCpE (s : State) : Result := .next (aluOpd .cp (.reg .e) s)

/-- `CP H` (R271). -/
def execCpH (s : State) : Result := .next (aluOpd .cp (.reg .h) s)

/-- `CP L` (R271). -/
def execCpL (s : State) : Result := .next (aluOpd .cp (.reg .l) s)

/-- `CP A` (R271). -/
def execCpA (s : State) : Result := .next (aluOpd .cp (.reg .a) s)

/-- `CP (HL)` (R272). -/
def execCpMHL (s : State) : Result := .next (aluOpd .cp .atHL s)

/-- `CP n` (R273). -/
def execCpn (n : Byte) (s : State) : Result := .next (aluByte .cp n s)

/-- `INC B` (R274). -/
def execIncB (s : State) : Result := .next (incOpd (.reg .b) s)

/-- `INC C` (R274). -/
def execIncC (s : State) : Result := .next (incOpd (.reg .c) s)

/-- `INC D` (R274). -/
def execIncD (s : State) : Result := .next (incOpd (.reg .d) s)

/-- `INC E` (R274). -/
def execIncE (s : State) : Result := .next (incOpd (.reg .e) s)

/-- `INC H` (R274). -/
def execIncH (s : State) : Result := .next (incOpd (.reg .h) s)

/-- `INC L` (R274). -/
def execIncL (s : State) : Result := .next (incOpd (.reg .l) s)

/-- `INC A` (R274). -/
def execIncA (s : State) : Result := .next (incOpd (.reg .a) s)

/-- `INC (HL)` (R275). -/
def execIncMHL (s : State) : Result := .next (incOpd .atHL s)

/-- `DEC B` (R276). -/
def execDecB (s : State) : Result := .next (decOpd (.reg .b) s)

/-- `DEC C` (R276). -/
def execDecC (s : State) : Result := .next (decOpd (.reg .c) s)

/-- `DEC D` (R276). -/
def execDecD (s : State) : Result := .next (decOpd (.reg .d) s)

/-- `DEC E` (R276). -/
def execDecE (s : State) : Result := .next (decOpd (.reg .e) s)

/-- `DEC H` (R276). -/
def execDecH (s : State) : Result := .next (decOpd (.reg .h) s)

/-- `DEC L` (R276). -/
def execDecL (s : State) : Result := .next (decOpd (.reg .l) s)

/-- `DEC A` (R276). -/
def execDecA (s : State) : Result := .next (decOpd (.reg .a) s)

/-- `DEC (HL)` (R277). -/
def execDecMHL (s : State) : Result := .next (decOpd .atHL s)

/-- `DAA` (R278). -/
def execDaa (s : State) : Result := .next (setAccFlags (Sys2Proof.Machine.daa s.cpu.a s.cpu.flags) s)

/-- `CPL` (R279). -/
def execCpl (s : State) : Result := .next (setAccFlags (~~~s.cpu.a, cplFlags s.cpu.flags) s)

/-- `SCF` (R280). -/
def execScf (s : State) : Result := .next (setFlags (scfFlags s.cpu.flags) s)

/-- `CCF` (R281). -/
def execCcf (s : State) : Result := .next (setFlags (ccfFlags s.cpu.flags) s)

end Sys2Proof.Machine
end

