-- ==== Sys2Proof/Machine/Control.lean ====
section
/-! DEFINITION. Jumps, calls and returns (45_control_transfer.md R350 to R362). Each meaning acts on the state in
which all bytes of the instruction have been fetched (notes/assumptions/1.md). -/

namespace Sys2Proof.Machine

/-- `JP nn` (R350). -/
def execJpnn (nn : Word) (s : State) : Result := .next (jump nn s)

/-- `JP NZ,nn` (R351). -/
def execJpNZnn (nn : Word) (s : State) : Result := .next (whenCond .nz (jump nn) s)

/-- `JP Z,nn` (R351). -/
def execJpZnn (nn : Word) (s : State) : Result := .next (whenCond .z (jump nn) s)

/-- `JP NC,nn` (R351). -/
def execJpNCnn (nn : Word) (s : State) : Result := .next (whenCond .nc (jump nn) s)

/-- `JP C,nn` (R351). -/
def execJpCnn (nn : Word) (s : State) : Result := .next (whenCond .c (jump nn) s)

/-- `JP HL` (R352). -/
def execJpHL (s : State) : Result := .next (setPc s.cpu.hl s)

/-- `JR e` (R353). -/
def execJre (e : Byte) (s : State) : Result := .next (jumpRel e s)

/-- `JR NZ,e` (R354). -/
def execJrNZe (e : Byte) (s : State) : Result := .next (whenCond .nz (jumpRel e) s)

/-- `JR Z,e` (R354). -/
def execJrZe (e : Byte) (s : State) : Result := .next (whenCond .z (jumpRel e) s)

/-- `JR NC,e` (R354). -/
def execJrNCe (e : Byte) (s : State) : Result := .next (whenCond .nc (jumpRel e) s)

/-- `JR C,e` (R354). -/
def execJrCe (e : Byte) (s : State) : Result := .next (whenCond .c (jumpRel e) s)

/-- `CALL nn` (R355). -/
def execCallnn (nn : Word) (s : State) : Result := .next (callTo nn s)

/-- `CALL NZ,nn` (R356). -/
def execCallNZnn (nn : Word) (s : State) : Result := .next (whenCond .nz (callTo nn) s)

/-- `CALL Z,nn` (R356). -/
def execCallZnn (nn : Word) (s : State) : Result := .next (whenCond .z (callTo nn) s)

/-- `CALL NC,nn` (R356). -/
def execCallNCnn (nn : Word) (s : State) : Result := .next (whenCond .nc (callTo nn) s)

/-- `CALL C,nn` (R356). -/
def execCallCnn (nn : Word) (s : State) : Result := .next (whenCond .c (callTo nn) s)

/-- `RET` (R357). -/
def execRet (s : State) : Result := .next (popPc s)

/-- `RET NZ` (R358). -/
def execRetNZ (s : State) : Result := .next (returnIf .nz s)

/-- `RET Z` (R358). -/
def execRetZ (s : State) : Result := .next (returnIf .z s)

/-- `RET NC` (R358). -/
def execRetNC (s : State) : Result := .next (returnIf .nc s)

/-- `RET C` (R358). -/
def execRetC (s : State) : Result := .next (returnIf .c s)

/-- `RETI` (R359). -/
def execReti (s : State) : Result := .next (returnFromInterrupt s)

/-- `RST 0x00` (R360). -/
def execRst00 (s : State) : Result := .next (callTo 0x00 s)

/-- `RST 0x08` (R360). -/
def execRst08 (s : State) : Result := .next (callTo 0x08 s)

/-- `RST 0x10` (R360). -/
def execRst10 (s : State) : Result := .next (callTo 0x10 s)

/-- `RST 0x18` (R360). -/
def execRst18 (s : State) : Result := .next (callTo 0x18 s)

/-- `RST 0x20` (R360). -/
def execRst20 (s : State) : Result := .next (callTo 0x20 s)

/-- `RST 0x28` (R360). -/
def execRst28 (s : State) : Result := .next (callTo 0x28 s)

/-- `RST 0x30` (R360). -/
def execRst30 (s : State) : Result := .next (callTo 0x30 s)

/-- `RST 0x38` (R360). -/
def execRst38 (s : State) : Result := .next (callTo 0x38 s)

end Sys2Proof.Machine
end

