-- ==== Sys2Proof/Machine/Load16.lean ====
section
/-! DEFINITION. The 16-bit loads, PUSH and POP (41_load16_stack.md R230 to R236). Each meaning acts on the state in
which all bytes of the instruction have been fetched (notes/assumptions/1.md). -/

namespace Sys2Proof.Machine

/-- `LD BC,nn` (R230). -/
def execLdBCnn (nn : Word) (s : State) : Result := .next (setPair .bc nn s)

/-- `LD DE,nn` (R230). -/
def execLdDEnn (nn : Word) (s : State) : Result := .next (setPair .de nn s)

/-- `LD HL,nn` (R230). -/
def execLdHLnn (nn : Word) (s : State) : Result := .next (setPair .hl nn s)

/-- `LD SP,nn` (R230). -/
def execLdSPnn (nn : Word) (s : State) : Result := .next (setPair .sp nn s)

/-- `LD (nn),SP` (R231). -/
def execLdMnnSP (nn : Word) (s : State) : Result := .next (storeSP nn s)

/-- `LD SP,HL` (R232). -/
def execLdSPHL (s : State) : Result := .next (loadSPHL s)

/-- `PUSH BC` (R233). -/
def execPushBC (s : State) : Result := .next (pushPair .bc s)

/-- `PUSH DE` (R233). -/
def execPushDE (s : State) : Result := .next (pushPair .de s)

/-- `PUSH HL` (R233). -/
def execPushHL (s : State) : Result := .next (pushPair .hl s)

/-- `PUSH AF` (R233). -/
def execPushAF (s : State) : Result := .next (pushPair .af s)

/-- `POP BC` (R234). -/
def execPopBC (s : State) : Result := .next (popPair .bc s)

/-- `POP DE` (R234). -/
def execPopDE (s : State) : Result := .next (popPair .de s)

/-- `POP HL` (R234). -/
def execPopHL (s : State) : Result := .next (popPair .hl s)

/-- `POP AF` (R235). -/
def execPopAF (s : State) : Result := .next (popPair .af s)

/-- `LD HL,SP+e` (R236). -/
def execLdHLSPe (e : Byte) (s : State) : Result := .next (loadHLSP e s)

end Sys2Proof.Machine
end

