-- ==== Sys2Proof/Machine/Load8.lean ====
section
/-! DEFINITION. The 8-bit loads (40_load8.md R200 to R218). None changes a flag. Each meaning acts on the state in
which all bytes of the instruction have been fetched (notes/assumptions/1.md). -/

namespace Sys2Proof.Machine

/-- `LD B,B` (R200). -/
def execLdBB (s : State) : Result := .next (loadOpd (.reg .b) (.reg .b) s)

/-- `LD B,C` (R200). -/
def execLdBC (s : State) : Result := .next (loadOpd (.reg .b) (.reg .c) s)

/-- `LD B,D` (R200). -/
def execLdBD (s : State) : Result := .next (loadOpd (.reg .b) (.reg .d) s)

/-- `LD B,E` (R200). -/
def execLdBE (s : State) : Result := .next (loadOpd (.reg .b) (.reg .e) s)

/-- `LD B,H` (R200). -/
def execLdBH (s : State) : Result := .next (loadOpd (.reg .b) (.reg .h) s)

/-- `LD B,L` (R200). -/
def execLdBL (s : State) : Result := .next (loadOpd (.reg .b) (.reg .l) s)

/-- `LD B,A` (R200). -/
def execLdBA (s : State) : Result := .next (loadOpd (.reg .b) (.reg .a) s)

/-- `LD C,B` (R200). -/
def execLdCB (s : State) : Result := .next (loadOpd (.reg .c) (.reg .b) s)

/-- `LD C,C` (R200). -/
def execLdCC (s : State) : Result := .next (loadOpd (.reg .c) (.reg .c) s)

/-- `LD C,D` (R200). -/
def execLdCD (s : State) : Result := .next (loadOpd (.reg .c) (.reg .d) s)

/-- `LD C,E` (R200). -/
def execLdCE (s : State) : Result := .next (loadOpd (.reg .c) (.reg .e) s)

/-- `LD C,H` (R200). -/
def execLdCH (s : State) : Result := .next (loadOpd (.reg .c) (.reg .h) s)

/-- `LD C,L` (R200). -/
def execLdCL (s : State) : Result := .next (loadOpd (.reg .c) (.reg .l) s)

/-- `LD C,A` (R200). -/
def execLdCA (s : State) : Result := .next (loadOpd (.reg .c) (.reg .a) s)

/-- `LD D,B` (R200). -/
def execLdDB (s : State) : Result := .next (loadOpd (.reg .d) (.reg .b) s)

/-- `LD D,C` (R200). -/
def execLdDC (s : State) : Result := .next (loadOpd (.reg .d) (.reg .c) s)

/-- `LD D,D` (R200). -/
def execLdDD (s : State) : Result := .next (loadOpd (.reg .d) (.reg .d) s)

/-- `LD D,E` (R200). -/
def execLdDE (s : State) : Result := .next (loadOpd (.reg .d) (.reg .e) s)

/-- `LD D,H` (R200). -/
def execLdDH (s : State) : Result := .next (loadOpd (.reg .d) (.reg .h) s)

/-- `LD D,L` (R200). -/
def execLdDL (s : State) : Result := .next (loadOpd (.reg .d) (.reg .l) s)

/-- `LD D,A` (R200). -/
def execLdDA (s : State) : Result := .next (loadOpd (.reg .d) (.reg .a) s)

/-- `LD E,B` (R200). -/
def execLdEB (s : State) : Result := .next (loadOpd (.reg .e) (.reg .b) s)

/-- `LD E,C` (R200). -/
def execLdEC (s : State) : Result := .next (loadOpd (.reg .e) (.reg .c) s)

/-- `LD E,D` (R200). -/
def execLdED (s : State) : Result := .next (loadOpd (.reg .e) (.reg .d) s)

/-- `LD E,E` (R200). -/
def execLdEE (s : State) : Result := .next (loadOpd (.reg .e) (.reg .e) s)

/-- `LD E,H` (R200). -/
def execLdEH (s : State) : Result := .next (loadOpd (.reg .e) (.reg .h) s)

/-- `LD E,L` (R200). -/
def execLdEL (s : State) : Result := .next (loadOpd (.reg .e) (.reg .l) s)

/-- `LD E,A` (R200). -/
def execLdEA (s : State) : Result := .next (loadOpd (.reg .e) (.reg .a) s)

/-- `LD H,B` (R200). -/
def execLdHB (s : State) : Result := .next (loadOpd (.reg .h) (.reg .b) s)

/-- `LD H,C` (R200). -/
def execLdHC (s : State) : Result := .next (loadOpd (.reg .h) (.reg .c) s)

/-- `LD H,D` (R200). -/
def execLdHD (s : State) : Result := .next (loadOpd (.reg .h) (.reg .d) s)

/-- `LD H,E` (R200). -/
def execLdHE (s : State) : Result := .next (loadOpd (.reg .h) (.reg .e) s)

/-- `LD H,H` (R200). -/
def execLdHH (s : State) : Result := .next (loadOpd (.reg .h) (.reg .h) s)

/-- `LD H,L` (R200). -/
def execLdHL (s : State) : Result := .next (loadOpd (.reg .h) (.reg .l) s)

/-- `LD H,A` (R200). -/
def execLdHA (s : State) : Result := .next (loadOpd (.reg .h) (.reg .a) s)

/-- `LD L,B` (R200). -/
def execLdLB (s : State) : Result := .next (loadOpd (.reg .l) (.reg .b) s)

/-- `LD L,C` (R200). -/
def execLdLC (s : State) : Result := .next (loadOpd (.reg .l) (.reg .c) s)

/-- `LD L,D` (R200). -/
def execLdLD (s : State) : Result := .next (loadOpd (.reg .l) (.reg .d) s)

/-- `LD L,E` (R200). -/
def execLdLE (s : State) : Result := .next (loadOpd (.reg .l) (.reg .e) s)

/-- `LD L,H` (R200). -/
def execLdLH (s : State) : Result := .next (loadOpd (.reg .l) (.reg .h) s)

/-- `LD L,L` (R200). -/
def execLdLL (s : State) : Result := .next (loadOpd (.reg .l) (.reg .l) s)

/-- `LD L,A` (R200). -/
def execLdLA (s : State) : Result := .next (loadOpd (.reg .l) (.reg .a) s)

/-- `LD A,B` (R200). -/
def execLdAB (s : State) : Result := .next (loadOpd (.reg .a) (.reg .b) s)

/-- `LD A,C` (R200). -/
def execLdAC (s : State) : Result := .next (loadOpd (.reg .a) (.reg .c) s)

/-- `LD A,D` (R200). -/
def execLdAD (s : State) : Result := .next (loadOpd (.reg .a) (.reg .d) s)

/-- `LD A,E` (R200). -/
def execLdAE (s : State) : Result := .next (loadOpd (.reg .a) (.reg .e) s)

/-- `LD A,H` (R200). -/
def execLdAH (s : State) : Result := .next (loadOpd (.reg .a) (.reg .h) s)

/-- `LD A,L` (R200). -/
def execLdAL (s : State) : Result := .next (loadOpd (.reg .a) (.reg .l) s)

/-- `LD A,A` (R200). -/
def execLdAA (s : State) : Result := .next (loadOpd (.reg .a) (.reg .a) s)

/-- `LD B,n` (R201). -/
def execLdBn (n : Byte) (s : State) : Result := .next (loadImm (.reg .b) n s)

/-- `LD C,n` (R201). -/
def execLdCn (n : Byte) (s : State) : Result := .next (loadImm (.reg .c) n s)

/-- `LD D,n` (R201). -/
def execLdDn (n : Byte) (s : State) : Result := .next (loadImm (.reg .d) n s)

/-- `LD E,n` (R201). -/
def execLdEn (n : Byte) (s : State) : Result := .next (loadImm (.reg .e) n s)

/-- `LD H,n` (R201). -/
def execLdHn (n : Byte) (s : State) : Result := .next (loadImm (.reg .h) n s)

/-- `LD L,n` (R201). -/
def execLdLn (n : Byte) (s : State) : Result := .next (loadImm (.reg .l) n s)

/-- `LD A,n` (R201). -/
def execLdAn (n : Byte) (s : State) : Result := .next (loadImm (.reg .a) n s)

/-- `LD B,(HL)` (R202). -/
def execLdBMHL (s : State) : Result := .next (loadOpd (.reg .b) .atHL s)

/-- `LD C,(HL)` (R202). -/
def execLdCMHL (s : State) : Result := .next (loadOpd (.reg .c) .atHL s)

/-- `LD D,(HL)` (R202). -/
def execLdDMHL (s : State) : Result := .next (loadOpd (.reg .d) .atHL s)

/-- `LD E,(HL)` (R202). -/
def execLdEMHL (s : State) : Result := .next (loadOpd (.reg .e) .atHL s)

/-- `LD H,(HL)` (R202). -/
def execLdHMHL (s : State) : Result := .next (loadOpd (.reg .h) .atHL s)

/-- `LD L,(HL)` (R202). -/
def execLdLMHL (s : State) : Result := .next (loadOpd (.reg .l) .atHL s)

/-- `LD A,(HL)` (R202). -/
def execLdAMHL (s : State) : Result := .next (loadOpd (.reg .a) .atHL s)

/-- `LD (HL),B` (R203). -/
def execLdMHLB (s : State) : Result := .next (loadOpd .atHL (.reg .b) s)

/-- `LD (HL),C` (R203). -/
def execLdMHLC (s : State) : Result := .next (loadOpd .atHL (.reg .c) s)

/-- `LD (HL),D` (R203). -/
def execLdMHLD (s : State) : Result := .next (loadOpd .atHL (.reg .d) s)

/-- `LD (HL),E` (R203). -/
def execLdMHLE (s : State) : Result := .next (loadOpd .atHL (.reg .e) s)

/-- `LD (HL),H` (R203). -/
def execLdMHLH (s : State) : Result := .next (loadOpd .atHL (.reg .h) s)

/-- `LD (HL),L` (R203). -/
def execLdMHLL (s : State) : Result := .next (loadOpd .atHL (.reg .l) s)

/-- `LD (HL),A` (R203). -/
def execLdMHLA (s : State) : Result := .next (loadOpd .atHL (.reg .a) s)

/-- `LD (HL),n` (R204). -/
def execLdMHLn (n : Byte) (s : State) : Result := .next (loadImm .atHL n s)

/-- `LD A,(BC)` (R205). -/
def execLdAMBC (s : State) : Result := .next (loadA s.cpu.bc s)

/-- `LD A,(DE)` (R206). -/
def execLdAMDE (s : State) : Result := .next (loadA s.cpu.de s)

/-- `LD (BC),A` (R207). -/
def execLdMBCA (s : State) : Result := .next (storeA s.cpu.bc s)

/-- `LD (DE),A` (R208). -/
def execLdMDEA (s : State) : Result := .next (storeA s.cpu.de s)

/-- `LD A,(nn)` (R209). -/
def execLdAMnn (nn : Word) (s : State) : Result := .next (loadA nn s)

/-- `LD (nn),A` (R210). -/
def execLdMnnA (nn : Word) (s : State) : Result := .next (storeA nn s)

/-- `LDH A,(C)` (R211). -/
def execLdhAMC (s : State) : Result := .next (loadA (highPage s.cpu.c) s)

/-- `LDH (C),A` (R212). -/
def execLdhMCA (s : State) : Result := .next (storeA (highPage s.cpu.c) s)

/-- `LDH A,(n)` (R213). -/
def execLdhAMn (n : Byte) (s : State) : Result := .next (loadA (highPage n) s)

/-- `LDH (n),A` (R214). -/
def execLdhMnA (n : Byte) (s : State) : Result := .next (storeA (highPage n) s)

/-- `LD A,(HL-)` (R215). -/
def execLdAMHLDec (s : State) : Result := .next (loadAStep decHalves s)

/-- `LD (HL-),A` (R216). -/
def execLdMHLDecA (s : State) : Result := .next (storeAStep decHalves s)

/-- `LD A,(HL+)` (R217). -/
def execLdAMHLInc (s : State) : Result := .next (loadAStep incHalves s)

/-- `LD (HL+),A` (R218). -/
def execLdMHLIncA (s : State) : Result := .next (storeAStep incHalves s)

end Sys2Proof.Machine
end

