-- ==== Sys2Proof/Machine/Rotate.lean ====
section
/-! DEFINITION. Rotates, shifts and bit operations (44_rotate_shift_bit.md R310 to R335). Each meaning acts on the state in
which all bytes of the instruction have been fetched (notes/assumptions/1.md). -/

namespace Sys2Proof.Machine

/-- `RLCA` (R310). -/
def execRlca (s : State) : Result := .next (rotA .rlc s)

/-- `RLA` (R311). -/
def execRla (s : State) : Result := .next (rotA .rl s)

/-- `RRCA` (R312). -/
def execRrca (s : State) : Result := .next (rotA .rrc s)

/-- `RRA` (R313). -/
def execRra (s : State) : Result := .next (rotA .rr s)

/-- `RLC B` (R314). -/
def execRlcB (s : State) : Result := .next (rotOpd .rlc (.reg .b) s)

/-- `RLC C` (R314). -/
def execRlcC (s : State) : Result := .next (rotOpd .rlc (.reg .c) s)

/-- `RLC D` (R314). -/
def execRlcD (s : State) : Result := .next (rotOpd .rlc (.reg .d) s)

/-- `RLC E` (R314). -/
def execRlcE (s : State) : Result := .next (rotOpd .rlc (.reg .e) s)

/-- `RLC H` (R314). -/
def execRlcH (s : State) : Result := .next (rotOpd .rlc (.reg .h) s)

/-- `RLC L` (R314). -/
def execRlcL (s : State) : Result := .next (rotOpd .rlc (.reg .l) s)

/-- `RLC A` (R314). -/
def execRlcA (s : State) : Result := .next (rotOpd .rlc (.reg .a) s)

/-- `RLC (HL)` (R315). -/
def execRlcMHL (s : State) : Result := .next (rotOpd .rlc .atHL s)

/-- `RRC B` (R316). -/
def execRrcB (s : State) : Result := .next (rotOpd .rrc (.reg .b) s)

/-- `RRC C` (R316). -/
def execRrcC (s : State) : Result := .next (rotOpd .rrc (.reg .c) s)

/-- `RRC D` (R316). -/
def execRrcD (s : State) : Result := .next (rotOpd .rrc (.reg .d) s)

/-- `RRC E` (R316). -/
def execRrcE (s : State) : Result := .next (rotOpd .rrc (.reg .e) s)

/-- `RRC H` (R316). -/
def execRrcH (s : State) : Result := .next (rotOpd .rrc (.reg .h) s)

/-- `RRC L` (R316). -/
def execRrcL (s : State) : Result := .next (rotOpd .rrc (.reg .l) s)

/-- `RRC A` (R316). -/
def execRrcA (s : State) : Result := .next (rotOpd .rrc (.reg .a) s)

/-- `RRC (HL)` (R317). -/
def execRrcMHL (s : State) : Result := .next (rotOpd .rrc .atHL s)

/-- `RL B` (R318). -/
def execRlB (s : State) : Result := .next (rotOpd .rl (.reg .b) s)

/-- `RL C` (R318). -/
def execRlC (s : State) : Result := .next (rotOpd .rl (.reg .c) s)

/-- `RL D` (R318). -/
def execRlD (s : State) : Result := .next (rotOpd .rl (.reg .d) s)

/-- `RL E` (R318). -/
def execRlE (s : State) : Result := .next (rotOpd .rl (.reg .e) s)

/-- `RL H` (R318). -/
def execRlH (s : State) : Result := .next (rotOpd .rl (.reg .h) s)

/-- `RL L` (R318). -/
def execRlL (s : State) : Result := .next (rotOpd .rl (.reg .l) s)

/-- `RL A` (R318). -/
def execRlA (s : State) : Result := .next (rotOpd .rl (.reg .a) s)

/-- `RL (HL)` (R319). -/
def execRlMHL (s : State) : Result := .next (rotOpd .rl .atHL s)

/-- `RR B` (R320). -/
def execRrB (s : State) : Result := .next (rotOpd .rr (.reg .b) s)

/-- `RR C` (R320). -/
def execRrC (s : State) : Result := .next (rotOpd .rr (.reg .c) s)

/-- `RR D` (R320). -/
def execRrD (s : State) : Result := .next (rotOpd .rr (.reg .d) s)

/-- `RR E` (R320). -/
def execRrE (s : State) : Result := .next (rotOpd .rr (.reg .e) s)

/-- `RR H` (R320). -/
def execRrH (s : State) : Result := .next (rotOpd .rr (.reg .h) s)

/-- `RR L` (R320). -/
def execRrL (s : State) : Result := .next (rotOpd .rr (.reg .l) s)

/-- `RR A` (R320). -/
def execRrA (s : State) : Result := .next (rotOpd .rr (.reg .a) s)

/-- `RR (HL)` (R321). -/
def execRrMHL (s : State) : Result := .next (rotOpd .rr .atHL s)

/-- `SLA B` (R322). -/
def execSlaB (s : State) : Result := .next (rotOpd .sla (.reg .b) s)

/-- `SLA C` (R322). -/
def execSlaC (s : State) : Result := .next (rotOpd .sla (.reg .c) s)

/-- `SLA D` (R322). -/
def execSlaD (s : State) : Result := .next (rotOpd .sla (.reg .d) s)

/-- `SLA E` (R322). -/
def execSlaE (s : State) : Result := .next (rotOpd .sla (.reg .e) s)

/-- `SLA H` (R322). -/
def execSlaH (s : State) : Result := .next (rotOpd .sla (.reg .h) s)

/-- `SLA L` (R322). -/
def execSlaL (s : State) : Result := .next (rotOpd .sla (.reg .l) s)

/-- `SLA A` (R322). -/
def execSlaA (s : State) : Result := .next (rotOpd .sla (.reg .a) s)

/-- `SLA (HL)` (R323). -/
def execSlaMHL (s : State) : Result := .next (rotOpd .sla .atHL s)

/-- `SRA B` (R324). -/
def execSraB (s : State) : Result := .next (rotOpd .sra (.reg .b) s)

/-- `SRA C` (R324). -/
def execSraC (s : State) : Result := .next (rotOpd .sra (.reg .c) s)

/-- `SRA D` (R324). -/
def execSraD (s : State) : Result := .next (rotOpd .sra (.reg .d) s)

/-- `SRA E` (R324). -/
def execSraE (s : State) : Result := .next (rotOpd .sra (.reg .e) s)

/-- `SRA H` (R324). -/
def execSraH (s : State) : Result := .next (rotOpd .sra (.reg .h) s)

/-- `SRA L` (R324). -/
def execSraL (s : State) : Result := .next (rotOpd .sra (.reg .l) s)

/-- `SRA A` (R324). -/
def execSraA (s : State) : Result := .next (rotOpd .sra (.reg .a) s)

/-- `SRA (HL)` (R325). -/
def execSraMHL (s : State) : Result := .next (rotOpd .sra .atHL s)

/-- `SWAP B` (R326). -/
def execSwapB (s : State) : Result := .next (rotOpd .swap (.reg .b) s)

/-- `SWAP C` (R326). -/
def execSwapC (s : State) : Result := .next (rotOpd .swap (.reg .c) s)

/-- `SWAP D` (R326). -/
def execSwapD (s : State) : Result := .next (rotOpd .swap (.reg .d) s)

/-- `SWAP E` (R326). -/
def execSwapE (s : State) : Result := .next (rotOpd .swap (.reg .e) s)

/-- `SWAP H` (R326). -/
def execSwapH (s : State) : Result := .next (rotOpd .swap (.reg .h) s)

/-- `SWAP L` (R326). -/
def execSwapL (s : State) : Result := .next (rotOpd .swap (.reg .l) s)

/-- `SWAP A` (R326). -/
def execSwapA (s : State) : Result := .next (rotOpd .swap (.reg .a) s)

/-- `SWAP (HL)` (R327). -/
def execSwapMHL (s : State) : Result := .next (rotOpd .swap .atHL s)

/-- `SRL B` (R328). -/
def execSrlB (s : State) : Result := .next (rotOpd .srl (.reg .b) s)

/-- `SRL C` (R328). -/
def execSrlC (s : State) : Result := .next (rotOpd .srl (.reg .c) s)

/-- `SRL D` (R328). -/
def execSrlD (s : State) : Result := .next (rotOpd .srl (.reg .d) s)

/-- `SRL E` (R328). -/
def execSrlE (s : State) : Result := .next (rotOpd .srl (.reg .e) s)

/-- `SRL H` (R328). -/
def execSrlH (s : State) : Result := .next (rotOpd .srl (.reg .h) s)

/-- `SRL L` (R328). -/
def execSrlL (s : State) : Result := .next (rotOpd .srl (.reg .l) s)

/-- `SRL A` (R328). -/
def execSrlA (s : State) : Result := .next (rotOpd .srl (.reg .a) s)

/-- `SRL (HL)` (R329). -/
def execSrlMHL (s : State) : Result := .next (rotOpd .srl .atHL s)

/-- `BIT 0,B` (R330). -/
def execBit0B (s : State) : Result := .next (bitOpd 0 (.reg .b) s)

/-- `BIT 0,C` (R330). -/
def execBit0C (s : State) : Result := .next (bitOpd 0 (.reg .c) s)

/-- `BIT 0,D` (R330). -/
def execBit0D (s : State) : Result := .next (bitOpd 0 (.reg .d) s)

/-- `BIT 0,E` (R330). -/
def execBit0E (s : State) : Result := .next (bitOpd 0 (.reg .e) s)

/-- `BIT 0,H` (R330). -/
def execBit0H (s : State) : Result := .next (bitOpd 0 (.reg .h) s)

/-- `BIT 0,L` (R330). -/
def execBit0L (s : State) : Result := .next (bitOpd 0 (.reg .l) s)

/-- `BIT 0,A` (R330). -/
def execBit0A (s : State) : Result := .next (bitOpd 0 (.reg .a) s)

/-- `BIT 1,B` (R330). -/
def execBit1B (s : State) : Result := .next (bitOpd 1 (.reg .b) s)

/-- `BIT 1,C` (R330). -/
def execBit1C (s : State) : Result := .next (bitOpd 1 (.reg .c) s)

/-- `BIT 1,D` (R330). -/
def execBit1D (s : State) : Result := .next (bitOpd 1 (.reg .d) s)

/-- `BIT 1,E` (R330). -/
def execBit1E (s : State) : Result := .next (bitOpd 1 (.reg .e) s)

/-- `BIT 1,H` (R330). -/
def execBit1H (s : State) : Result := .next (bitOpd 1 (.reg .h) s)

/-- `BIT 1,L` (R330). -/
def execBit1L (s : State) : Result := .next (bitOpd 1 (.reg .l) s)

/-- `BIT 1,A` (R330). -/
def execBit1A (s : State) : Result := .next (bitOpd 1 (.reg .a) s)

/-- `BIT 2,B` (R330). -/
def execBit2B (s : State) : Result := .next (bitOpd 2 (.reg .b) s)

/-- `BIT 2,C` (R330). -/
def execBit2C (s : State) : Result := .next (bitOpd 2 (.reg .c) s)

/-- `BIT 2,D` (R330). -/
def execBit2D (s : State) : Result := .next (bitOpd 2 (.reg .d) s)

/-- `BIT 2,E` (R330). -/
def execBit2E (s : State) : Result := .next (bitOpd 2 (.reg .e) s)

/-- `BIT 2,H` (R330). -/
def execBit2H (s : State) : Result := .next (bitOpd 2 (.reg .h) s)

/-- `BIT 2,L` (R330). -/
def execBit2L (s : State) : Result := .next (bitOpd 2 (.reg .l) s)

/-- `BIT 2,A` (R330). -/
def execBit2A (s : State) : Result := .next (bitOpd 2 (.reg .a) s)

/-- `BIT 3,B` (R330). -/
def execBit3B (s : State) : Result := .next (bitOpd 3 (.reg .b) s)

/-- `BIT 3,C` (R330). -/
def execBit3C (s : State) : Result := .next (bitOpd 3 (.reg .c) s)

/-- `BIT 3,D` (R330). -/
def execBit3D (s : State) : Result := .next (bitOpd 3 (.reg .d) s)

/-- `BIT 3,E` (R330). -/
def execBit3E (s : State) : Result := .next (bitOpd 3 (.reg .e) s)

/-- `BIT 3,H` (R330). -/
def execBit3H (s : State) : Result := .next (bitOpd 3 (.reg .h) s)

/-- `BIT 3,L` (R330). -/
def execBit3L (s : State) : Result := .next (bitOpd 3 (.reg .l) s)

/-- `BIT 3,A` (R330). -/
def execBit3A (s : State) : Result := .next (bitOpd 3 (.reg .a) s)

/-- `BIT 4,B` (R330). -/
def execBit4B (s : State) : Result := .next (bitOpd 4 (.reg .b) s)

/-- `BIT 4,C` (R330). -/
def execBit4C (s : State) : Result := .next (bitOpd 4 (.reg .c) s)

/-- `BIT 4,D` (R330). -/
def execBit4D (s : State) : Result := .next (bitOpd 4 (.reg .d) s)

/-- `BIT 4,E` (R330). -/
def execBit4E (s : State) : Result := .next (bitOpd 4 (.reg .e) s)

/-- `BIT 4,H` (R330). -/
def execBit4H (s : State) : Result := .next (bitOpd 4 (.reg .h) s)

/-- `BIT 4,L` (R330). -/
def execBit4L (s : State) : Result := .next (bitOpd 4 (.reg .l) s)

/-- `BIT 4,A` (R330). -/
def execBit4A (s : State) : Result := .next (bitOpd 4 (.reg .a) s)

/-- `BIT 5,B` (R330). -/
def execBit5B (s : State) : Result := .next (bitOpd 5 (.reg .b) s)

/-- `BIT 5,C` (R330). -/
def execBit5C (s : State) : Result := .next (bitOpd 5 (.reg .c) s)

/-- `BIT 5,D` (R330). -/
def execBit5D (s : State) : Result := .next (bitOpd 5 (.reg .d) s)

/-- `BIT 5,E` (R330). -/
def execBit5E (s : State) : Result := .next (bitOpd 5 (.reg .e) s)

/-- `BIT 5,H` (R330). -/
def execBit5H (s : State) : Result := .next (bitOpd 5 (.reg .h) s)

/-- `BIT 5,L` (R330). -/
def execBit5L (s : State) : Result := .next (bitOpd 5 (.reg .l) s)

/-- `BIT 5,A` (R330). -/
def execBit5A (s : State) : Result := .next (bitOpd 5 (.reg .a) s)

/-- `BIT 6,B` (R330). -/
def execBit6B (s : State) : Result := .next (bitOpd 6 (.reg .b) s)

/-- `BIT 6,C` (R330). -/
def execBit6C (s : State) : Result := .next (bitOpd 6 (.reg .c) s)

/-- `BIT 6,D` (R330). -/
def execBit6D (s : State) : Result := .next (bitOpd 6 (.reg .d) s)

/-- `BIT 6,E` (R330). -/
def execBit6E (s : State) : Result := .next (bitOpd 6 (.reg .e) s)

/-- `BIT 6,H` (R330). -/
def execBit6H (s : State) : Result := .next (bitOpd 6 (.reg .h) s)

/-- `BIT 6,L` (R330). -/
def execBit6L (s : State) : Result := .next (bitOpd 6 (.reg .l) s)

/-- `BIT 6,A` (R330). -/
def execBit6A (s : State) : Result := .next (bitOpd 6 (.reg .a) s)

/-- `BIT 7,B` (R330). -/
def execBit7B (s : State) : Result := .next (bitOpd 7 (.reg .b) s)

/-- `BIT 7,C` (R330). -/
def execBit7C (s : State) : Result := .next (bitOpd 7 (.reg .c) s)

/-- `BIT 7,D` (R330). -/
def execBit7D (s : State) : Result := .next (bitOpd 7 (.reg .d) s)

/-- `BIT 7,E` (R330). -/
def execBit7E (s : State) : Result := .next (bitOpd 7 (.reg .e) s)

/-- `BIT 7,H` (R330). -/
def execBit7H (s : State) : Result := .next (bitOpd 7 (.reg .h) s)

/-- `BIT 7,L` (R330). -/
def execBit7L (s : State) : Result := .next (bitOpd 7 (.reg .l) s)

/-- `BIT 7,A` (R330). -/
def execBit7A (s : State) : Result := .next (bitOpd 7 (.reg .a) s)

/-- `BIT 0,(HL)` (R331). -/
def execBit0MHL (s : State) : Result := .next (bitOpd 0 .atHL s)

/-- `BIT 1,(HL)` (R331). -/
def execBit1MHL (s : State) : Result := .next (bitOpd 1 .atHL s)

/-- `BIT 2,(HL)` (R331). -/
def execBit2MHL (s : State) : Result := .next (bitOpd 2 .atHL s)

/-- `BIT 3,(HL)` (R331). -/
def execBit3MHL (s : State) : Result := .next (bitOpd 3 .atHL s)

/-- `BIT 4,(HL)` (R331). -/
def execBit4MHL (s : State) : Result := .next (bitOpd 4 .atHL s)

/-- `BIT 5,(HL)` (R331). -/
def execBit5MHL (s : State) : Result := .next (bitOpd 5 .atHL s)

/-- `BIT 6,(HL)` (R331). -/
def execBit6MHL (s : State) : Result := .next (bitOpd 6 .atHL s)

/-- `BIT 7,(HL)` (R331). -/
def execBit7MHL (s : State) : Result := .next (bitOpd 7 .atHL s)

/-- `RES 0,B` (R332). -/
def execRes0B (s : State) : Result := .next (resOpd 0 (.reg .b) s)

/-- `RES 0,C` (R332). -/
def execRes0C (s : State) : Result := .next (resOpd 0 (.reg .c) s)

/-- `RES 0,D` (R332). -/
def execRes0D (s : State) : Result := .next (resOpd 0 (.reg .d) s)

/-- `RES 0,E` (R332). -/
def execRes0E (s : State) : Result := .next (resOpd 0 (.reg .e) s)

/-- `RES 0,H` (R332). -/
def execRes0H (s : State) : Result := .next (resOpd 0 (.reg .h) s)

/-- `RES 0,L` (R332). -/
def execRes0L (s : State) : Result := .next (resOpd 0 (.reg .l) s)

/-- `RES 0,A` (R332). -/
def execRes0A (s : State) : Result := .next (resOpd 0 (.reg .a) s)

/-- `RES 1,B` (R332). -/
def execRes1B (s : State) : Result := .next (resOpd 1 (.reg .b) s)

/-- `RES 1,C` (R332). -/
def execRes1C (s : State) : Result := .next (resOpd 1 (.reg .c) s)

/-- `RES 1,D` (R332). -/
def execRes1D (s : State) : Result := .next (resOpd 1 (.reg .d) s)

/-- `RES 1,E` (R332). -/
def execRes1E (s : State) : Result := .next (resOpd 1 (.reg .e) s)

/-- `RES 1,H` (R332). -/
def execRes1H (s : State) : Result := .next (resOpd 1 (.reg .h) s)

/-- `RES 1,L` (R332). -/
def execRes1L (s : State) : Result := .next (resOpd 1 (.reg .l) s)

/-- `RES 1,A` (R332). -/
def execRes1A (s : State) : Result := .next (resOpd 1 (.reg .a) s)

/-- `RES 2,B` (R332). -/
def execRes2B (s : State) : Result := .next (resOpd 2 (.reg .b) s)

/-- `RES 2,C` (R332). -/
def execRes2C (s : State) : Result := .next (resOpd 2 (.reg .c) s)

/-- `RES 2,D` (R332). -/
def execRes2D (s : State) : Result := .next (resOpd 2 (.reg .d) s)

/-- `RES 2,E` (R332). -/
def execRes2E (s : State) : Result := .next (resOpd 2 (.reg .e) s)

/-- `RES 2,H` (R332). -/
def execRes2H (s : State) : Result := .next (resOpd 2 (.reg .h) s)

/-- `RES 2,L` (R332). -/
def execRes2L (s : State) : Result := .next (resOpd 2 (.reg .l) s)

/-- `RES 2,A` (R332). -/
def execRes2A (s : State) : Result := .next (resOpd 2 (.reg .a) s)

/-- `RES 3,B` (R332). -/
def execRes3B (s : State) : Result := .next (resOpd 3 (.reg .b) s)

/-- `RES 3,C` (R332). -/
def execRes3C (s : State) : Result := .next (resOpd 3 (.reg .c) s)

/-- `RES 3,D` (R332). -/
def execRes3D (s : State) : Result := .next (resOpd 3 (.reg .d) s)

/-- `RES 3,E` (R332). -/
def execRes3E (s : State) : Result := .next (resOpd 3 (.reg .e) s)

/-- `RES 3,H` (R332). -/
def execRes3H (s : State) : Result := .next (resOpd 3 (.reg .h) s)

/-- `RES 3,L` (R332). -/
def execRes3L (s : State) : Result := .next (resOpd 3 (.reg .l) s)

/-- `RES 3,A` (R332). -/
def execRes3A (s : State) : Result := .next (resOpd 3 (.reg .a) s)

/-- `RES 4,B` (R332). -/
def execRes4B (s : State) : Result := .next (resOpd 4 (.reg .b) s)

/-- `RES 4,C` (R332). -/
def execRes4C (s : State) : Result := .next (resOpd 4 (.reg .c) s)

/-- `RES 4,D` (R332). -/
def execRes4D (s : State) : Result := .next (resOpd 4 (.reg .d) s)

/-- `RES 4,E` (R332). -/
def execRes4E (s : State) : Result := .next (resOpd 4 (.reg .e) s)

/-- `RES 4,H` (R332). -/
def execRes4H (s : State) : Result := .next (resOpd 4 (.reg .h) s)

/-- `RES 4,L` (R332). -/
def execRes4L (s : State) : Result := .next (resOpd 4 (.reg .l) s)

/-- `RES 4,A` (R332). -/
def execRes4A (s : State) : Result := .next (resOpd 4 (.reg .a) s)

/-- `RES 5,B` (R332). -/
def execRes5B (s : State) : Result := .next (resOpd 5 (.reg .b) s)

/-- `RES 5,C` (R332). -/
def execRes5C (s : State) : Result := .next (resOpd 5 (.reg .c) s)

/-- `RES 5,D` (R332). -/
def execRes5D (s : State) : Result := .next (resOpd 5 (.reg .d) s)

/-- `RES 5,E` (R332). -/
def execRes5E (s : State) : Result := .next (resOpd 5 (.reg .e) s)

/-- `RES 5,H` (R332). -/
def execRes5H (s : State) : Result := .next (resOpd 5 (.reg .h) s)

/-- `RES 5,L` (R332). -/
def execRes5L (s : State) : Result := .next (resOpd 5 (.reg .l) s)

/-- `RES 5,A` (R332). -/
def execRes5A (s : State) : Result := .next (resOpd 5 (.reg .a) s)

/-- `RES 6,B` (R332). -/
def execRes6B (s : State) : Result := .next (resOpd 6 (.reg .b) s)

/-- `RES 6,C` (R332). -/
def execRes6C (s : State) : Result := .next (resOpd 6 (.reg .c) s)

/-- `RES 6,D` (R332). -/
def execRes6D (s : State) : Result := .next (resOpd 6 (.reg .d) s)

/-- `RES 6,E` (R332). -/
def execRes6E (s : State) : Result := .next (resOpd 6 (.reg .e) s)

/-- `RES 6,H` (R332). -/
def execRes6H (s : State) : Result := .next (resOpd 6 (.reg .h) s)

/-- `RES 6,L` (R332). -/
def execRes6L (s : State) : Result := .next (resOpd 6 (.reg .l) s)

/-- `RES 6,A` (R332). -/
def execRes6A (s : State) : Result := .next (resOpd 6 (.reg .a) s)

/-- `RES 7,B` (R332). -/
def execRes7B (s : State) : Result := .next (resOpd 7 (.reg .b) s)

/-- `RES 7,C` (R332). -/
def execRes7C (s : State) : Result := .next (resOpd 7 (.reg .c) s)

/-- `RES 7,D` (R332). -/
def execRes7D (s : State) : Result := .next (resOpd 7 (.reg .d) s)

/-- `RES 7,E` (R332). -/
def execRes7E (s : State) : Result := .next (resOpd 7 (.reg .e) s)

/-- `RES 7,H` (R332). -/
def execRes7H (s : State) : Result := .next (resOpd 7 (.reg .h) s)

/-- `RES 7,L` (R332). -/
def execRes7L (s : State) : Result := .next (resOpd 7 (.reg .l) s)

/-- `RES 7,A` (R332). -/
def execRes7A (s : State) : Result := .next (resOpd 7 (.reg .a) s)

/-- `RES 0,(HL)` (R333). -/
def execRes0MHL (s : State) : Result := .next (resOpd 0 .atHL s)

/-- `RES 1,(HL)` (R333). -/
def execRes1MHL (s : State) : Result := .next (resOpd 1 .atHL s)

/-- `RES 2,(HL)` (R333). -/
def execRes2MHL (s : State) : Result := .next (resOpd 2 .atHL s)

/-- `RES 3,(HL)` (R333). -/
def execRes3MHL (s : State) : Result := .next (resOpd 3 .atHL s)

/-- `RES 4,(HL)` (R333). -/
def execRes4MHL (s : State) : Result := .next (resOpd 4 .atHL s)

/-- `RES 5,(HL)` (R333). -/
def execRes5MHL (s : State) : Result := .next (resOpd 5 .atHL s)

/-- `RES 6,(HL)` (R333). -/
def execRes6MHL (s : State) : Result := .next (resOpd 6 .atHL s)

/-- `RES 7,(HL)` (R333). -/
def execRes7MHL (s : State) : Result := .next (resOpd 7 .atHL s)

/-- `SET 0,B` (R334). -/
def execSet0B (s : State) : Result := .next (setOpd 0 (.reg .b) s)

/-- `SET 0,C` (R334). -/
def execSet0C (s : State) : Result := .next (setOpd 0 (.reg .c) s)

/-- `SET 0,D` (R334). -/
def execSet0D (s : State) : Result := .next (setOpd 0 (.reg .d) s)

/-- `SET 0,E` (R334). -/
def execSet0E (s : State) : Result := .next (setOpd 0 (.reg .e) s)

/-- `SET 0,H` (R334). -/
def execSet0H (s : State) : Result := .next (setOpd 0 (.reg .h) s)

/-- `SET 0,L` (R334). -/
def execSet0L (s : State) : Result := .next (setOpd 0 (.reg .l) s)

/-- `SET 0,A` (R334). -/
def execSet0A (s : State) : Result := .next (setOpd 0 (.reg .a) s)

/-- `SET 1,B` (R334). -/
def execSet1B (s : State) : Result := .next (setOpd 1 (.reg .b) s)

/-- `SET 1,C` (R334). -/
def execSet1C (s : State) : Result := .next (setOpd 1 (.reg .c) s)

/-- `SET 1,D` (R334). -/
def execSet1D (s : State) : Result := .next (setOpd 1 (.reg .d) s)

/-- `SET 1,E` (R334). -/
def execSet1E (s : State) : Result := .next (setOpd 1 (.reg .e) s)

/-- `SET 1,H` (R334). -/
def execSet1H (s : State) : Result := .next (setOpd 1 (.reg .h) s)

/-- `SET 1,L` (R334). -/
def execSet1L (s : State) : Result := .next (setOpd 1 (.reg .l) s)

/-- `SET 1,A` (R334). -/
def execSet1A (s : State) : Result := .next (setOpd 1 (.reg .a) s)

/-- `SET 2,B` (R334). -/
def execSet2B (s : State) : Result := .next (setOpd 2 (.reg .b) s)

/-- `SET 2,C` (R334). -/
def execSet2C (s : State) : Result := .next (setOpd 2 (.reg .c) s)

/-- `SET 2,D` (R334). -/
def execSet2D (s : State) : Result := .next (setOpd 2 (.reg .d) s)

/-- `SET 2,E` (R334). -/
def execSet2E (s : State) : Result := .next (setOpd 2 (.reg .e) s)

/-- `SET 2,H` (R334). -/
def execSet2H (s : State) : Result := .next (setOpd 2 (.reg .h) s)

/-- `SET 2,L` (R334). -/
def execSet2L (s : State) : Result := .next (setOpd 2 (.reg .l) s)

/-- `SET 2,A` (R334). -/
def execSet2A (s : State) : Result := .next (setOpd 2 (.reg .a) s)

/-- `SET 3,B` (R334). -/
def execSet3B (s : State) : Result := .next (setOpd 3 (.reg .b) s)

/-- `SET 3,C` (R334). -/
def execSet3C (s : State) : Result := .next (setOpd 3 (.reg .c) s)

/-- `SET 3,D` (R334). -/
def execSet3D (s : State) : Result := .next (setOpd 3 (.reg .d) s)

/-- `SET 3,E` (R334). -/
def execSet3E (s : State) : Result := .next (setOpd 3 (.reg .e) s)

/-- `SET 3,H` (R334). -/
def execSet3H (s : State) : Result := .next (setOpd 3 (.reg .h) s)

/-- `SET 3,L` (R334). -/
def execSet3L (s : State) : Result := .next (setOpd 3 (.reg .l) s)

/-- `SET 3,A` (R334). -/
def execSet3A (s : State) : Result := .next (setOpd 3 (.reg .a) s)

/-- `SET 4,B` (R334). -/
def execSet4B (s : State) : Result := .next (setOpd 4 (.reg .b) s)

/-- `SET 4,C` (R334). -/
def execSet4C (s : State) : Result := .next (setOpd 4 (.reg .c) s)

/-- `SET 4,D` (R334). -/
def execSet4D (s : State) : Result := .next (setOpd 4 (.reg .d) s)

/-- `SET 4,E` (R334). -/
def execSet4E (s : State) : Result := .next (setOpd 4 (.reg .e) s)

/-- `SET 4,H` (R334). -/
def execSet4H (s : State) : Result := .next (setOpd 4 (.reg .h) s)

/-- `SET 4,L` (R334). -/
def execSet4L (s : State) : Result := .next (setOpd 4 (.reg .l) s)

/-- `SET 4,A` (R334). -/
def execSet4A (s : State) : Result := .next (setOpd 4 (.reg .a) s)

/-- `SET 5,B` (R334). -/
def execSet5B (s : State) : Result := .next (setOpd 5 (.reg .b) s)

/-- `SET 5,C` (R334). -/
def execSet5C (s : State) : Result := .next (setOpd 5 (.reg .c) s)

/-- `SET 5,D` (R334). -/
def execSet5D (s : State) : Result := .next (setOpd 5 (.reg .d) s)

/-- `SET 5,E` (R334). -/
def execSet5E (s : State) : Result := .next (setOpd 5 (.reg .e) s)

/-- `SET 5,H` (R334). -/
def execSet5H (s : State) : Result := .next (setOpd 5 (.reg .h) s)

/-- `SET 5,L` (R334). -/
def execSet5L (s : State) : Result := .next (setOpd 5 (.reg .l) s)

/-- `SET 5,A` (R334). -/
def execSet5A (s : State) : Result := .next (setOpd 5 (.reg .a) s)

/-- `SET 6,B` (R334). -/
def execSet6B (s : State) : Result := .next (setOpd 6 (.reg .b) s)

/-- `SET 6,C` (R334). -/
def execSet6C (s : State) : Result := .next (setOpd 6 (.reg .c) s)

/-- `SET 6,D` (R334). -/
def execSet6D (s : State) : Result := .next (setOpd 6 (.reg .d) s)

/-- `SET 6,E` (R334). -/
def execSet6E (s : State) : Result := .next (setOpd 6 (.reg .e) s)

/-- `SET 6,H` (R334). -/
def execSet6H (s : State) : Result := .next (setOpd 6 (.reg .h) s)

/-- `SET 6,L` (R334). -/
def execSet6L (s : State) : Result := .next (setOpd 6 (.reg .l) s)

/-- `SET 6,A` (R334). -/
def execSet6A (s : State) : Result := .next (setOpd 6 (.reg .a) s)

/-- `SET 7,B` (R334). -/
def execSet7B (s : State) : Result := .next (setOpd 7 (.reg .b) s)

/-- `SET 7,C` (R334). -/
def execSet7C (s : State) : Result := .next (setOpd 7 (.reg .c) s)

/-- `SET 7,D` (R334). -/
def execSet7D (s : State) : Result := .next (setOpd 7 (.reg .d) s)

/-- `SET 7,E` (R334). -/
def execSet7E (s : State) : Result := .next (setOpd 7 (.reg .e) s)

/-- `SET 7,H` (R334). -/
def execSet7H (s : State) : Result := .next (setOpd 7 (.reg .h) s)

/-- `SET 7,L` (R334). -/
def execSet7L (s : State) : Result := .next (setOpd 7 (.reg .l) s)

/-- `SET 7,A` (R334). -/
def execSet7A (s : State) : Result := .next (setOpd 7 (.reg .a) s)

/-- `SET 0,(HL)` (R335). -/
def execSet0MHL (s : State) : Result := .next (setOpd 0 .atHL s)

/-- `SET 1,(HL)` (R335). -/
def execSet1MHL (s : State) : Result := .next (setOpd 1 .atHL s)

/-- `SET 2,(HL)` (R335). -/
def execSet2MHL (s : State) : Result := .next (setOpd 2 .atHL s)

/-- `SET 3,(HL)` (R335). -/
def execSet3MHL (s : State) : Result := .next (setOpd 3 .atHL s)

/-- `SET 4,(HL)` (R335). -/
def execSet4MHL (s : State) : Result := .next (setOpd 4 .atHL s)

/-- `SET 5,(HL)` (R335). -/
def execSet5MHL (s : State) : Result := .next (setOpd 5 .atHL s)

/-- `SET 6,(HL)` (R335). -/
def execSet6MHL (s : State) : Result := .next (setOpd 6 .atHL s)

/-- `SET 7,(HL)` (R335). -/
def execSet7MHL (s : State) : Result := .next (setOpd 7 .atHL s)

end Sys2Proof.Machine
end

