-- ==== Sys2Proof/WellFormed.lean ====
section
/-! DEFINITION. Which instructions have words of their own. Every field of every constructor has the width of its
encoding, so the one check is about the prefix row. -/

namespace Sys2Proof

/-- `PREFIX CB` is half an instruction: the byte after it is always an extended opcode, and every one of the 256 has a row
of its own (30_encoding.md R180, R183). Its words are that row's words, so the decoder never answers it
(notes/assumptions/17.md). -/
def Instr.isPrefixRow : Instr → Bool
  | .prefixCB _ => true
  | _ => false

/-- A well-formed instruction: one the decoder can answer. -/
def Instr.wellFormed (i : Instr) : Bool := !i.isPrefixRow

end Sys2Proof
end

