-- ==== Sys2Proof/Decode.lean ====
section
/-! DEFINITION. The decoder, total on any bytes, and the encoder, from the field tables of 30_encoding.md (R170 to R184). -/

namespace Sys2Proof

/-! ## The operand codes -/

/-- R173: the 8-bit operand of a three-bit code. -/
def Opd8.ofCode : Nat → Opd8
  | 0 => .reg .b | 1 => .reg .c | 2 => .reg .d | 3 => .reg .e
  | 4 => .reg .h | 5 => .reg .l | 6 => .atHL | _ => .reg .a

/-- R174: the pair of a two-bit code. -/
def Pair.ofCode : Nat → Pair
  | 0 => .bc | 1 => .de | 2 => .hl | _ => .sp

/-- R174: the pair of a two-bit code in PUSH and POP. -/
def StackPair.ofCode : Nat → StackPair
  | 0 => .bc | 1 => .de | 2 => .hl | _ => .af

/-- R175: the condition of a two-bit code. -/
def Cond.ofCode : Nat → Cond
  | 0 => .nz | 1 => .z | 2 => .nc | _ => .c

/-- R176: the arithmetic or logic operation of a three-bit code. -/
def AluOp.ofCode : Nat → AluOp
  | 0 => .add | 1 => .adc | 2 => .sub | 3 => .sbc | 4 => .and | 5 => .xor | 6 => .or | _ => .cp

/-- R176: the rotate or shift operation of a three-bit code. -/
def RotOp.ofCode : Nat → RotOp
  | 0 => .rlc | 1 => .rrc | 2 => .rl | 3 => .rr | 4 => .sla | 5 => .sra | 6 => .swap | _ => .srl

/-- R176: a bit number or restart number. -/
def Oct.ofCode : Nat → Oct
  | 0 => .n0 | 1 => .n1 | 2 => .n2 | 3 => .n3 | 4 => .n4 | 5 => .n5 | 6 => .n6 | _ => .n7

/-- The number an `Oct` stands for. -/
def Oct.toNat : Oct → Nat
  | .n0 => 0 | .n1 => 1 | .n2 => 2 | .n3 => 3 | .n4 => 4 | .n5 => 5 | .n6 => 6 | .n7 => 7

/-! ## The rows by their fields: which constructor a field value selects (R178, R180) -/

/-- x = 1: `LD r[y],r[z]`; the slot (HL),(HL) is HALT. -/
def ldRow : Opd8 → Opd8 → Instr
  | .reg .b, .reg .b => .ldBB
  | .reg .b, .reg .c => .ldBC
  | .reg .b, .reg .d => .ldBD
  | .reg .b, .reg .e => .ldBE
  | .reg .b, .reg .h => .ldBH
  | .reg .b, .reg .l => .ldBL
  | .reg .b, .atHL => .ldBMHL
  | .reg .b, .reg .a => .ldBA
  | .reg .c, .reg .b => .ldCB
  | .reg .c, .reg .c => .ldCC
  | .reg .c, .reg .d => .ldCD
  | .reg .c, .reg .e => .ldCE
  | .reg .c, .reg .h => .ldCH
  | .reg .c, .reg .l => .ldCL
  | .reg .c, .atHL => .ldCMHL
  | .reg .c, .reg .a => .ldCA
  | .reg .d, .reg .b => .ldDB
  | .reg .d, .reg .c => .ldDC
  | .reg .d, .reg .d => .ldDD
  | .reg .d, .reg .e => .ldDE
  | .reg .d, .reg .h => .ldDH
  | .reg .d, .reg .l => .ldDL
  | .reg .d, .atHL => .ldDMHL
  | .reg .d, .reg .a => .ldDA
  | .reg .e, .reg .b => .ldEB
  | .reg .e, .reg .c => .ldEC
  | .reg .e, .reg .d => .ldED
  | .reg .e, .reg .e => .ldEE
  | .reg .e, .reg .h => .ldEH
  | .reg .e, .reg .l => .ldEL
  | .reg .e, .atHL => .ldEMHL
  | .reg .e, .reg .a => .ldEA
  | .reg .h, .reg .b => .ldHB
  | .reg .h, .reg .c => .ldHC
  | .reg .h, .reg .d => .ldHD
  | .reg .h, .reg .e => .ldHE
  | .reg .h, .reg .h => .ldHH
  | .reg .h, .reg .l => .ldHL
  | .reg .h, .atHL => .ldHMHL
  | .reg .h, .reg .a => .ldHA
  | .reg .l, .reg .b => .ldLB
  | .reg .l, .reg .c => .ldLC
  | .reg .l, .reg .d => .ldLD
  | .reg .l, .reg .e => .ldLE
  | .reg .l, .reg .h => .ldLH
  | .reg .l, .reg .l => .ldLL
  | .reg .l, .atHL => .ldLMHL
  | .reg .l, .reg .a => .ldLA
  | .atHL, .reg .b => .ldMHLB
  | .atHL, .reg .c => .ldMHLC
  | .atHL, .reg .d => .ldMHLD
  | .atHL, .reg .e => .ldMHLE
  | .atHL, .reg .h => .ldMHLH
  | .atHL, .reg .l => .ldMHLL
  | .atHL, .atHL => .halt
  | .atHL, .reg .a => .ldMHLA
  | .reg .a, .reg .b => .ldAB
  | .reg .a, .reg .c => .ldAC
  | .reg .a, .reg .d => .ldAD
  | .reg .a, .reg .e => .ldAE
  | .reg .a, .reg .h => .ldAH
  | .reg .a, .reg .l => .ldAL
  | .reg .a, .atHL => .ldAMHL
  | .reg .a, .reg .a => .ldAA

/-- `LD r[y],n`. -/
def ldImmRow : Opd8 → Byte → Instr
  | .reg .b => .ldBn
  | .reg .c => .ldCn
  | .reg .d => .ldDn
  | .reg .e => .ldEn
  | .reg .h => .ldHn
  | .reg .l => .ldLn
  | .atHL => .ldMHLn
  | .reg .a => .ldAn

/-- `INC r[y]`. -/
def incRow : Opd8 → Instr
  | .reg .b => .incB
  | .reg .c => .incC
  | .reg .d => .incD
  | .reg .e => .incE
  | .reg .h => .incH
  | .reg .l => .incL
  | .atHL => .incMHL
  | .reg .a => .incA

/-- `DEC r[y]`. -/
def decRow : Opd8 → Instr
  | .reg .b => .decB
  | .reg .c => .decC
  | .reg .d => .decD
  | .reg .e => .decE
  | .reg .h => .decH
  | .reg .l => .decL
  | .atHL => .decMHL
  | .reg .a => .decA

/-- x = 2: `alu[y] A,r[z]`. -/
def aluRow : AluOp → Opd8 → Instr
  | .add, .reg .b => .addAB
  | .add, .reg .c => .addAC
  | .add, .reg .d => .addAD
  | .add, .reg .e => .addAE
  | .add, .reg .h => .addAH
  | .add, .reg .l => .addAL
  | .add, .atHL => .addAMHL
  | .add, .reg .a => .addAA
  | .adc, .reg .b => .adcAB
  | .adc, .reg .c => .adcAC
  | .adc, .reg .d => .adcAD
  | .adc, .reg .e => .adcAE
  | .adc, .reg .h => .adcAH
  | .adc, .reg .l => .adcAL
  | .adc, .atHL => .adcAMHL
  | .adc, .reg .a => .adcAA
  | .sub, .reg .b => .subB
  | .sub, .reg .c => .subC
  | .sub, .reg .d => .subD
  | .sub, .reg .e => .subE
  | .sub, .reg .h => .subH
  | .sub, .reg .l => .subL
  | .sub, .atHL => .subMHL
  | .sub, .reg .a => .subA
  | .sbc, .reg .b => .sbcAB
  | .sbc, .reg .c => .sbcAC
  | .sbc, .reg .d => .sbcAD
  | .sbc, .reg .e => .sbcAE
  | .sbc, .reg .h => .sbcAH
  | .sbc, .reg .l => .sbcAL
  | .sbc, .atHL => .sbcAMHL
  | .sbc, .reg .a => .sbcAA
  | .and, .reg .b => .andB
  | .and, .reg .c => .andC
  | .and, .reg .d => .andD
  | .and, .reg .e => .andE
  | .and, .reg .h => .andH
  | .and, .reg .l => .andL
  | .and, .atHL => .andMHL
  | .and, .reg .a => .andA
  | .xor, .reg .b => .xorB
  | .xor, .reg .c => .xorC
  | .xor, .reg .d => .xorD
  | .xor, .reg .e => .xorE
  | .xor, .reg .h => .xorH
  | .xor, .reg .l => .xorL
  | .xor, .atHL => .xorMHL
  | .xor, .reg .a => .xorA
  | .or, .reg .b => .orB
  | .or, .reg .c => .orC
  | .or, .reg .d => .orD
  | .or, .reg .e => .orE
  | .or, .reg .h => .orH
  | .or, .reg .l => .orL
  | .or, .atHL => .orMHL
  | .or, .reg .a => .orA
  | .cp, .reg .b => .cpB
  | .cp, .reg .c => .cpC
  | .cp, .reg .d => .cpD
  | .cp, .reg .e => .cpE
  | .cp, .reg .h => .cpH
  | .cp, .reg .l => .cpL
  | .cp, .atHL => .cpMHL
  | .cp, .reg .a => .cpA

/-- `alu[y] A,n`. -/
def aluImmRow : AluOp → Byte → Instr
  | .add => .addAn
  | .adc => .adcAn
  | .sub => .subn
  | .sbc => .sbcAn
  | .and => .andn
  | .xor => .xorn
  | .or => .orn
  | .cp => .cpn

/-- `LD rr[p],nn`. -/
def ldPairRow : Pair → Word → Instr
  | .bc => .ldBCnn
  | .de => .ldDEnn
  | .hl => .ldHLnn
  | .sp => .ldSPnn

/-- `ADD HL,rr[p]`. -/
def addHLRow : Pair → Instr
  | .bc => .addHLBC
  | .de => .addHLDE
  | .hl => .addHLHL
  | .sp => .addHLSP

/-- `INC rr[p]`. -/
def incPairRow : Pair → Instr
  | .bc => .incBC
  | .de => .incDE
  | .hl => .incHL
  | .sp => .incSP

/-- `DEC rr[p]`. -/
def decPairRow : Pair → Instr
  | .bc => .decBC
  | .de => .decDE
  | .hl => .decHL
  | .sp => .decSP

/-- `PUSH rr2[p]`. -/
def pushRow : StackPair → Instr
  | .bc => .pushBC
  | .de => .pushDE
  | .hl => .pushHL
  | .af => .pushAF

/-- `POP rr2[p]`. -/
def popRow : StackPair → Instr
  | .bc => .popBC
  | .de => .popDE
  | .hl => .popHL
  | .af => .popAF

/-- `JR cc,e`. -/
def jrRow : Cond → Byte → Instr
  | .nz => .jrNZe
  | .z => .jrZe
  | .nc => .jrNCe
  | .c => .jrCe

/-- `JP cc,nn`. -/
def jpRow : Cond → Word → Instr
  | .nz => .jpNZnn
  | .z => .jpZnn
  | .nc => .jpNCnn
  | .c => .jpCnn

/-- `CALL cc,nn`. -/
def callRow : Cond → Word → Instr
  | .nz => .callNZnn
  | .z => .callZnn
  | .nc => .callNCnn
  | .c => .callCnn

/-- `RET cc`. -/
def retRow : Cond → Instr
  | .nz => .retNZ
  | .z => .retZ
  | .nc => .retNC
  | .c => .retC

/-- `RST y×8`. -/
def rstRow : Oct → Instr
  | .n0 => .rst00
  | .n1 => .rst08
  | .n2 => .rst10
  | .n3 => .rst18
  | .n4 => .rst20
  | .n5 => .rst28
  | .n6 => .rst30
  | .n7 => .rst38

/-- The extended opcodes with x = 0: `rot[y] r[z]`. -/
def rotRow : RotOp → Opd8 → Instr
  | .rlc, .reg .b => .rlcB
  | .rlc, .reg .c => .rlcC
  | .rlc, .reg .d => .rlcD
  | .rlc, .reg .e => .rlcE
  | .rlc, .reg .h => .rlcH
  | .rlc, .reg .l => .rlcL
  | .rlc, .atHL => .rlcMHL
  | .rlc, .reg .a => .rlcA
  | .rrc, .reg .b => .rrcB
  | .rrc, .reg .c => .rrcC
  | .rrc, .reg .d => .rrcD
  | .rrc, .reg .e => .rrcE
  | .rrc, .reg .h => .rrcH
  | .rrc, .reg .l => .rrcL
  | .rrc, .atHL => .rrcMHL
  | .rrc, .reg .a => .rrcA
  | .rl, .reg .b => .rlB
  | .rl, .reg .c => .rlC
  | .rl, .reg .d => .rlD
  | .rl, .reg .e => .rlE
  | .rl, .reg .h => .rlH
  | .rl, .reg .l => .rlL
  | .rl, .atHL => .rlMHL
  | .rl, .reg .a => .rlA
  | .rr, .reg .b => .rrB
  | .rr, .reg .c => .rrC
  | .rr, .reg .d => .rrD
  | .rr, .reg .e => .rrE
  | .rr, .reg .h => .rrH
  | .rr, .reg .l => .rrL
  | .rr, .atHL => .rrMHL
  | .rr, .reg .a => .rrA
  | .sla, .reg .b => .slaB
  | .sla, .reg .c => .slaC
  | .sla, .reg .d => .slaD
  | .sla, .reg .e => .slaE
  | .sla, .reg .h => .slaH
  | .sla, .reg .l => .slaL
  | .sla, .atHL => .slaMHL
  | .sla, .reg .a => .slaA
  | .sra, .reg .b => .sraB
  | .sra, .reg .c => .sraC
  | .sra, .reg .d => .sraD
  | .sra, .reg .e => .sraE
  | .sra, .reg .h => .sraH
  | .sra, .reg .l => .sraL
  | .sra, .atHL => .sraMHL
  | .sra, .reg .a => .sraA
  | .swap, .reg .b => .swapB
  | .swap, .reg .c => .swapC
  | .swap, .reg .d => .swapD
  | .swap, .reg .e => .swapE
  | .swap, .reg .h => .swapH
  | .swap, .reg .l => .swapL
  | .swap, .atHL => .swapMHL
  | .swap, .reg .a => .swapA
  | .srl, .reg .b => .srlB
  | .srl, .reg .c => .srlC
  | .srl, .reg .d => .srlD
  | .srl, .reg .e => .srlE
  | .srl, .reg .h => .srlH
  | .srl, .reg .l => .srlL
  | .srl, .atHL => .srlMHL
  | .srl, .reg .a => .srlA

/-- The extended opcodes with x = 1: `BIT y,r[z]`. -/
def bitRow : Oct → Opd8 → Instr
  | .n0, .reg .b => .bit0B
  | .n0, .reg .c => .bit0C
  | .n0, .reg .d => .bit0D
  | .n0, .reg .e => .bit0E
  | .n0, .reg .h => .bit0H
  | .n0, .reg .l => .bit0L
  | .n0, .atHL => .bit0MHL
  | .n0, .reg .a => .bit0A
  | .n1, .reg .b => .bit1B
  | .n1, .reg .c => .bit1C
  | .n1, .reg .d => .bit1D
  | .n1, .reg .e => .bit1E
  | .n1, .reg .h => .bit1H
  | .n1, .reg .l => .bit1L
  | .n1, .atHL => .bit1MHL
  | .n1, .reg .a => .bit1A
  | .n2, .reg .b => .bit2B
  | .n2, .reg .c => .bit2C
  | .n2, .reg .d => .bit2D
  | .n2, .reg .e => .bit2E
  | .n2, .reg .h => .bit2H
  | .n2, .reg .l => .bit2L
  | .n2, .atHL => .bit2MHL
  | .n2, .reg .a => .bit2A
  | .n3, .reg .b => .bit3B
  | .n3, .reg .c => .bit3C
  | .n3, .reg .d => .bit3D
  | .n3, .reg .e => .bit3E
  | .n3, .reg .h => .bit3H
  | .n3, .reg .l => .bit3L
  | .n3, .atHL => .bit3MHL
  | .n3, .reg .a => .bit3A
  | .n4, .reg .b => .bit4B
  | .n4, .reg .c => .bit4C
  | .n4, .reg .d => .bit4D
  | .n4, .reg .e => .bit4E
  | .n4, .reg .h => .bit4H
  | .n4, .reg .l => .bit4L
  | .n4, .atHL => .bit4MHL
  | .n4, .reg .a => .bit4A
  | .n5, .reg .b => .bit5B
  | .n5, .reg .c => .bit5C
  | .n5, .reg .d => .bit5D
  | .n5, .reg .e => .bit5E
  | .n5, .reg .h => .bit5H
  | .n5, .reg .l => .bit5L
  | .n5, .atHL => .bit5MHL
  | .n5, .reg .a => .bit5A
  | .n6, .reg .b => .bit6B
  | .n6, .reg .c => .bit6C
  | .n6, .reg .d => .bit6D
  | .n6, .reg .e => .bit6E
  | .n6, .reg .h => .bit6H
  | .n6, .reg .l => .bit6L
  | .n6, .atHL => .bit6MHL
  | .n6, .reg .a => .bit6A
  | .n7, .reg .b => .bit7B
  | .n7, .reg .c => .bit7C
  | .n7, .reg .d => .bit7D
  | .n7, .reg .e => .bit7E
  | .n7, .reg .h => .bit7H
  | .n7, .reg .l => .bit7L
  | .n7, .atHL => .bit7MHL
  | .n7, .reg .a => .bit7A

/-- The extended opcodes with x = 2: `RES y,r[z]`. -/
def resRow : Oct → Opd8 → Instr
  | .n0, .reg .b => .res0B
  | .n0, .reg .c => .res0C
  | .n0, .reg .d => .res0D
  | .n0, .reg .e => .res0E
  | .n0, .reg .h => .res0H
  | .n0, .reg .l => .res0L
  | .n0, .atHL => .res0MHL
  | .n0, .reg .a => .res0A
  | .n1, .reg .b => .res1B
  | .n1, .reg .c => .res1C
  | .n1, .reg .d => .res1D
  | .n1, .reg .e => .res1E
  | .n1, .reg .h => .res1H
  | .n1, .reg .l => .res1L
  | .n1, .atHL => .res1MHL
  | .n1, .reg .a => .res1A
  | .n2, .reg .b => .res2B
  | .n2, .reg .c => .res2C
  | .n2, .reg .d => .res2D
  | .n2, .reg .e => .res2E
  | .n2, .reg .h => .res2H
  | .n2, .reg .l => .res2L
  | .n2, .atHL => .res2MHL
  | .n2, .reg .a => .res2A
  | .n3, .reg .b => .res3B
  | .n3, .reg .c => .res3C
  | .n3, .reg .d => .res3D
  | .n3, .reg .e => .res3E
  | .n3, .reg .h => .res3H
  | .n3, .reg .l => .res3L
  | .n3, .atHL => .res3MHL
  | .n3, .reg .a => .res3A
  | .n4, .reg .b => .res4B
  | .n4, .reg .c => .res4C
  | .n4, .reg .d => .res4D
  | .n4, .reg .e => .res4E
  | .n4, .reg .h => .res4H
  | .n4, .reg .l => .res4L
  | .n4, .atHL => .res4MHL
  | .n4, .reg .a => .res4A
  | .n5, .reg .b => .res5B
  | .n5, .reg .c => .res5C
  | .n5, .reg .d => .res5D
  | .n5, .reg .e => .res5E
  | .n5, .reg .h => .res5H
  | .n5, .reg .l => .res5L
  | .n5, .atHL => .res5MHL
  | .n5, .reg .a => .res5A
  | .n6, .reg .b => .res6B
  | .n6, .reg .c => .res6C
  | .n6, .reg .d => .res6D
  | .n6, .reg .e => .res6E
  | .n6, .reg .h => .res6H
  | .n6, .reg .l => .res6L
  | .n6, .atHL => .res6MHL
  | .n6, .reg .a => .res6A
  | .n7, .reg .b => .res7B
  | .n7, .reg .c => .res7C
  | .n7, .reg .d => .res7D
  | .n7, .reg .e => .res7E
  | .n7, .reg .h => .res7H
  | .n7, .reg .l => .res7L
  | .n7, .atHL => .res7MHL
  | .n7, .reg .a => .res7A

/-- The extended opcodes with x = 3: `SET y,r[z]`. -/
def setRow : Oct → Opd8 → Instr
  | .n0, .reg .b => .set0B
  | .n0, .reg .c => .set0C
  | .n0, .reg .d => .set0D
  | .n0, .reg .e => .set0E
  | .n0, .reg .h => .set0H
  | .n0, .reg .l => .set0L
  | .n0, .atHL => .set0MHL
  | .n0, .reg .a => .set0A
  | .n1, .reg .b => .set1B
  | .n1, .reg .c => .set1C
  | .n1, .reg .d => .set1D
  | .n1, .reg .e => .set1E
  | .n1, .reg .h => .set1H
  | .n1, .reg .l => .set1L
  | .n1, .atHL => .set1MHL
  | .n1, .reg .a => .set1A
  | .n2, .reg .b => .set2B
  | .n2, .reg .c => .set2C
  | .n2, .reg .d => .set2D
  | .n2, .reg .e => .set2E
  | .n2, .reg .h => .set2H
  | .n2, .reg .l => .set2L
  | .n2, .atHL => .set2MHL
  | .n2, .reg .a => .set2A
  | .n3, .reg .b => .set3B
  | .n3, .reg .c => .set3C
  | .n3, .reg .d => .set3D
  | .n3, .reg .e => .set3E
  | .n3, .reg .h => .set3H
  | .n3, .reg .l => .set3L
  | .n3, .atHL => .set3MHL
  | .n3, .reg .a => .set3A
  | .n4, .reg .b => .set4B
  | .n4, .reg .c => .set4C
  | .n4, .reg .d => .set4D
  | .n4, .reg .e => .set4E
  | .n4, .reg .h => .set4H
  | .n4, .reg .l => .set4L
  | .n4, .atHL => .set4MHL
  | .n4, .reg .a => .set4A
  | .n5, .reg .b => .set5B
  | .n5, .reg .c => .set5C
  | .n5, .reg .d => .set5D
  | .n5, .reg .e => .set5E
  | .n5, .reg .h => .set5H
  | .n5, .reg .l => .set5L
  | .n5, .atHL => .set5MHL
  | .n5, .reg .a => .set5A
  | .n6, .reg .b => .set6B
  | .n6, .reg .c => .set6C
  | .n6, .reg .d => .set6D
  | .n6, .reg .e => .set6E
  | .n6, .reg .h => .set6H
  | .n6, .reg .l => .set6L
  | .n6, .atHL => .set6MHL
  | .n6, .reg .a => .set6A
  | .n7, .reg .b => .set7B
  | .n7, .reg .c => .set7C
  | .n7, .reg .d => .set7D
  | .n7, .reg .e => .set7E
  | .n7, .reg .h => .set7H
  | .n7, .reg .l => .set7L
  | .n7, .atHL => .set7MHL
  | .n7, .reg .a => .set7A

/-- R180: the extended opcode, by its fields x, y, z (R172). Total: all 256 values are defined. -/
def extendedRow (op : Byte) : Instr :=
  let y := op.toNat / 8 % 8
  let o := Opd8.ofCode (op.toNat % 8)
  match op.toNat / 64 with
  | 0 => rotRow (RotOp.ofCode y) o
  | 1 => bitRow (Oct.ofCode y) o
  | 2 => resRow (Oct.ofCode y) o
  | _ => setRow (Oct.ofCode y) o

/-- What the first byte of an instruction decides (R170): the instruction itself, or how the bytes after it complete it. -/
inductive Row where
  | plain (i : Instr)
  | imm8 (k : Byte → Instr)
  | imm16 (k : Word → Instr)
  | extended

/-- R178, x = 0. -/
def row0 (y z : Nat) : Row :=
  let p := y / 2
  match z, y % 2 with
  | 0, _ =>
    match y with
    | 0 => .plain .nop
    | 1 => .imm16 .ldMnnSP
    | 2 => .plain .stop
    | 3 => .imm8 .jre
    | _ => .imm8 (jrRow (Cond.ofCode (y - 4)))
  | 1, 0 => .imm16 (ldPairRow (Pair.ofCode p))
  | 1, _ => .plain (addHLRow (Pair.ofCode p))
  | 2, _ =>
    match y with
    | 0 => .plain .ldMBCA
    | 1 => .plain .ldAMBC
    | 2 => .plain .ldMDEA
    | 3 => .plain .ldAMDE
    | 4 => .plain .ldMHLIncA
    | 5 => .plain .ldAMHLInc
    | 6 => .plain .ldMHLDecA
    | _ => .plain .ldAMHLDec
  | 3, 0 => .plain (incPairRow (Pair.ofCode p))
  | 3, _ => .plain (decPairRow (Pair.ofCode p))
  | 4, _ => .plain (incRow (Opd8.ofCode y))
  | 5, _ => .plain (decRow (Opd8.ofCode y))
  | 6, _ => .imm8 (ldImmRow (Opd8.ofCode y))
  | _, _ =>
    match y with
    | 0 => .plain .rlca
    | 1 => .plain .rrca
    | 2 => .plain .rla
    | 3 => .plain .rra
    | 4 => .plain .daa
    | 5 => .plain .cpl
    | 6 => .plain .scf
    | _ => .plain .ccf

/-- R178, x = 3. -/
def row3 (y z : Nat) : Row :=
  let p := y / 2
  match z with
  | 0 =>
    match y with
    | 4 => .imm8 .ldhMnA
    | 5 => .imm8 .addSPe
    | 6 => .imm8 .ldhAMn
    | 7 => .imm8 .ldHLSPe
    | _ => .plain (retRow (Cond.ofCode y))
  | 1 =>
    match y with
    | 1 => .plain .ret
    | 3 => .plain .reti
    | 5 => .plain .jpHL
    | 7 => .plain .ldSPHL
    | _ => .plain (popRow (StackPair.ofCode p))
  | 2 =>
    match y with
    | 4 => .plain .ldhMCA
    | 5 => .imm16 .ldMnnA
    | 6 => .plain .ldhAMC
    | 7 => .imm16 .ldAMnn
    | _ => .imm16 (jpRow (Cond.ofCode y))
  | 3 =>
    match y with
    | 0 => .imm16 .jpnn
    | 1 => .extended
    | 2 => .plain .illegalD3
    | 3 => .plain .illegalDB
    | 4 => .plain .illegalE3
    | 5 => .plain .illegalEB
    | 6 => .plain .di
    | _ => .plain .ei
  | 4 =>
    match y with
    | 4 => .plain .illegalE4
    | 5 => .plain .illegalEC
    | 6 => .plain .illegalF4
    | 7 => .plain .illegalFC
    | _ => .imm16 (callRow (Cond.ofCode y))
  | 5 =>
    match y with
    | 1 => .imm16 .callnn
    | 3 => .plain .illegalDD
    | 5 => .plain .illegalED
    | 7 => .plain .illegalFD
    | _ => .plain (pushRow (StackPair.ofCode p))
  | 6 => .imm8 (aluImmRow (AluOp.ofCode y))
  | _ => .plain (rstRow (Oct.ofCode y))

/-- R178: the primary opcode by its fields x, y, z. Every byte selects one row (R184); the eleven opcodes with no decode
entry (R181) select the rows `illegal…`, whose meaning is the fatal fault. -/
def primaryRow (op : Byte) : Row :=
  let y := op.toNat / 8 % 8
  let z := op.toNat % 8
  match op.toNat / 64 with
  | 0 => row0 y z
  | 1 => .plain (ldRow (Opd8.ofCode y) (Opd8.ofCode z))
  | 2 => .plain (aluRow (AluOp.ofCode y) (Opd8.ofCode z))
  | _ => row3 y z

/-- How many bytes follow the first one (R170, R183). The byte a two-byte STOP skips is not read, so it does not count
here (46_system.md R372). -/
def Row.more : Row → Nat
  | .plain _ => 0
  | .imm8 _ => 1
  | .imm16 _ => 2
  | .extended => 1

/-- Why a list of bytes is no instruction: it ends too early. No byte value is refused (R184). -/
inductive DecodeError where
  /-- There is no first byte. -/
  | noBytes
  /-- The instruction of this first byte has more bytes than the list. -/
  | truncated (op : Byte)
deriving DecidableEq, Repr

/-- The decoder: the instruction at the head of a list of bytes, and the rest of the list. A 16-bit immediate has its low
byte first (R177). -/
def decode : List Byte → Except DecodeError (Instr × List Byte)
  | [] => .error .noBytes
  | op :: rest =>
    match primaryRow op, rest with
    | .plain i, _ => .ok (i, rest)
    | .imm8 k, n :: rest => .ok (k n, rest)
    | .imm16 k, l :: h :: rest => .ok (k (word h l), rest)
    | .extended, op2 :: rest => .ok (extendedRow op2, rest)
    | _, _ => .error (.truncated op)

/-! ## The encoder -/

/-- The bytes of an instruction, in the order they lie in memory, from the opcode column of the table (R179, R180) and the
formats of R171. -/
def encode : Instr → List Byte
  | .nop => [0x00]
  | .ldBCnn nn => [0x01, lo nn, hi nn]
  | .ldMBCA => [0x02]
  | .incBC => [0x03]
  | .incB => [0x04]
  | .decB => [0x05]
  | .ldBn n => [0x06, n]
  | .rlca => [0x07]
  | .ldMnnSP nn => [0x08, lo nn, hi nn]
  | .addHLBC => [0x09]
  | .ldAMBC => [0x0A]
  | .decBC => [0x0B]
  | .incC => [0x0C]
  | .decC => [0x0D]
  | .ldCn n => [0x0E, n]
  | .rrca => [0x0F]
  | .stop => [0x10]
  | .ldDEnn nn => [0x11, lo nn, hi nn]
  | .ldMDEA => [0x12]
  | .incDE => [0x13]
  | .incD => [0x14]
  | .decD => [0x15]
  | .ldDn n => [0x16, n]
  | .rla => [0x17]
  | .jre e => [0x18, e]
  | .addHLDE => [0x19]
  | .ldAMDE => [0x1A]
  | .decDE => [0x1B]
  | .incE => [0x1C]
  | .decE => [0x1D]
  | .ldEn n => [0x1E, n]
  | .rra => [0x1F]
  | .jrNZe e => [0x20, e]
  | .ldHLnn nn => [0x21, lo nn, hi nn]
  | .ldMHLIncA => [0x22]
  | .incHL => [0x23]
  | .incH => [0x24]
  | .decH => [0x25]
  | .ldHn n => [0x26, n]
  | .daa => [0x27]
  | .jrZe e => [0x28, e]
  | .addHLHL => [0x29]
  | .ldAMHLInc => [0x2A]
  | .decHL => [0x2B]
  | .incL => [0x2C]
  | .decL => [0x2D]
  | .ldLn n => [0x2E, n]
  | .cpl => [0x2F]
  | .jrNCe e => [0x30, e]
  | .ldSPnn nn => [0x31, lo nn, hi nn]
  | .ldMHLDecA => [0x32]
  | .incSP => [0x33]
  | .incMHL => [0x34]
  | .decMHL => [0x35]
  | .ldMHLn n => [0x36, n]
  | .scf => [0x37]
  | .jrCe e => [0x38, e]
  | .addHLSP => [0x39]
  | .ldAMHLDec => [0x3A]
  | .decSP => [0x3B]
  | .incA => [0x3C]
  | .decA => [0x3D]
  | .ldAn n => [0x3E, n]
  | .ccf => [0x3F]
  | .ldBB => [0x40]
  | .ldBC => [0x41]
  | .ldBD => [0x42]
  | .ldBE => [0x43]
  | .ldBH => [0x44]
  | .ldBL => [0x45]
  | .ldBMHL => [0x46]
  | .ldBA => [0x47]
  | .ldCB => [0x48]
  | .ldCC => [0x49]
  | .ldCD => [0x4A]
  | .ldCE => [0x4B]
  | .ldCH => [0x4C]
  | .ldCL => [0x4D]
  | .ldCMHL => [0x4E]
  | .ldCA => [0x4F]
  | .ldDB => [0x50]
  | .ldDC => [0x51]
  | .ldDD => [0x52]
  | .ldDE => [0x53]
  | .ldDH => [0x54]
  | .ldDL => [0x55]
  | .ldDMHL => [0x56]
  | .ldDA => [0x57]
  | .ldEB => [0x58]
  | .ldEC => [0x59]
  | .ldED => [0x5A]
  | .ldEE => [0x5B]
  | .ldEH => [0x5C]
  | .ldEL => [0x5D]
  | .ldEMHL => [0x5E]
  | .ldEA => [0x5F]
  | .ldHB => [0x60]
  | .ldHC => [0x61]
  | .ldHD => [0x62]
  | .ldHE => [0x63]
  | .ldHH => [0x64]
  | .ldHL => [0x65]
  | .ldHMHL => [0x66]
  | .ldHA => [0x67]
  | .ldLB => [0x68]
  | .ldLC => [0x69]
  | .ldLD => [0x6A]
  | .ldLE => [0x6B]
  | .ldLH => [0x6C]
  | .ldLL => [0x6D]
  | .ldLMHL => [0x6E]
  | .ldLA => [0x6F]
  | .ldMHLB => [0x70]
  | .ldMHLC => [0x71]
  | .ldMHLD => [0x72]
  | .ldMHLE => [0x73]
  | .ldMHLH => [0x74]
  | .ldMHLL => [0x75]
  | .halt => [0x76]
  | .ldMHLA => [0x77]
  | .ldAB => [0x78]
  | .ldAC => [0x79]
  | .ldAD => [0x7A]
  | .ldAE => [0x7B]
  | .ldAH => [0x7C]
  | .ldAL => [0x7D]
  | .ldAMHL => [0x7E]
  | .ldAA => [0x7F]
  | .addAB => [0x80]
  | .addAC => [0x81]
  | .addAD => [0x82]
  | .addAE => [0x83]
  | .addAH => [0x84]
  | .addAL => [0x85]
  | .addAMHL => [0x86]
  | .addAA => [0x87]
  | .adcAB => [0x88]
  | .adcAC => [0x89]
  | .adcAD => [0x8A]
  | .adcAE => [0x8B]
  | .adcAH => [0x8C]
  | .adcAL => [0x8D]
  | .adcAMHL => [0x8E]
  | .adcAA => [0x8F]
  | .subB => [0x90]
  | .subC => [0x91]
  | .subD => [0x92]
  | .subE => [0x93]
  | .subH => [0x94]
  | .subL => [0x95]
  | .subMHL => [0x96]
  | .subA => [0x97]
  | .sbcAB => [0x98]
  | .sbcAC => [0x99]
  | .sbcAD => [0x9A]
  | .sbcAE => [0x9B]
  | .sbcAH => [0x9C]
  | .sbcAL => [0x9D]
  | .sbcAMHL => [0x9E]
  | .sbcAA => [0x9F]
  | .andB => [0xA0]
  | .andC => [0xA1]
  | .andD => [0xA2]
  | .andE => [0xA3]
  | .andH => [0xA4]
  | .andL => [0xA5]
  | .andMHL => [0xA6]
  | .andA => [0xA7]
  | .xorB => [0xA8]
  | .xorC => [0xA9]
  | .xorD => [0xAA]
  | .xorE => [0xAB]
  | .xorH => [0xAC]
  | .xorL => [0xAD]
  | .xorMHL => [0xAE]
  | .xorA => [0xAF]
  | .orB => [0xB0]
  | .orC => [0xB1]
  | .orD => [0xB2]
  | .orE => [0xB3]
  | .orH => [0xB4]
  | .orL => [0xB5]
  | .orMHL => [0xB6]
  | .orA => [0xB7]
  | .cpB => [0xB8]
  | .cpC => [0xB9]
  | .cpD => [0xBA]
  | .cpE => [0xBB]
  | .cpH => [0xBC]
  | .cpL => [0xBD]
  | .cpMHL => [0xBE]
  | .cpA => [0xBF]
  | .retNZ => [0xC0]
  | .popBC => [0xC1]
  | .jpNZnn nn => [0xC2, lo nn, hi nn]
  | .jpnn nn => [0xC3, lo nn, hi nn]
  | .callNZnn nn => [0xC4, lo nn, hi nn]
  | .pushBC => [0xC5]
  | .addAn n => [0xC6, n]
  | .rst00 => [0xC7]
  | .retZ => [0xC8]
  | .ret => [0xC9]
  | .jpZnn nn => [0xCA, lo nn, hi nn]
  | .prefixCB op2 => [0xCB, op2]
  | .callZnn nn => [0xCC, lo nn, hi nn]
  | .callnn nn => [0xCD, lo nn, hi nn]
  | .adcAn n => [0xCE, n]
  | .rst08 => [0xCF]
  | .retNC => [0xD0]
  | .popDE => [0xD1]
  | .jpNCnn nn => [0xD2, lo nn, hi nn]
  | .illegalD3 => [0xD3]
  | .callNCnn nn => [0xD4, lo nn, hi nn]
  | .pushDE => [0xD5]
  | .subn n => [0xD6, n]
  | .rst10 => [0xD7]
  | .retC => [0xD8]
  | .reti => [0xD9]
  | .jpCnn nn => [0xDA, lo nn, hi nn]
  | .illegalDB => [0xDB]
  | .callCnn nn => [0xDC, lo nn, hi nn]
  | .illegalDD => [0xDD]
  | .sbcAn n => [0xDE, n]
  | .rst18 => [0xDF]
  | .ldhMnA n => [0xE0, n]
  | .popHL => [0xE1]
  | .ldhMCA => [0xE2]
  | .illegalE3 => [0xE3]
  | .illegalE4 => [0xE4]
  | .pushHL => [0xE5]
  | .andn n => [0xE6, n]
  | .rst20 => [0xE7]
  | .addSPe e => [0xE8, e]
  | .jpHL => [0xE9]
  | .ldMnnA nn => [0xEA, lo nn, hi nn]
  | .illegalEB => [0xEB]
  | .illegalEC => [0xEC]
  | .illegalED => [0xED]
  | .xorn n => [0xEE, n]
  | .rst28 => [0xEF]
  | .ldhAMn n => [0xF0, n]
  | .popAF => [0xF1]
  | .ldhAMC => [0xF2]
  | .di => [0xF3]
  | .illegalF4 => [0xF4]
  | .pushAF => [0xF5]
  | .orn n => [0xF6, n]
  | .rst30 => [0xF7]
  | .ldHLSPe e => [0xF8, e]
  | .ldSPHL => [0xF9]
  | .ldAMnn nn => [0xFA, lo nn, hi nn]
  | .ei => [0xFB]
  | .illegalFC => [0xFC]
  | .illegalFD => [0xFD]
  | .cpn n => [0xFE, n]
  | .rst38 => [0xFF]
  | .rlcB => [0xCB, 0x00]
  | .rlcC => [0xCB, 0x01]
  | .rlcD => [0xCB, 0x02]
  | .rlcE => [0xCB, 0x03]
  | .rlcH => [0xCB, 0x04]
  | .rlcL => [0xCB, 0x05]
  | .rlcMHL => [0xCB, 0x06]
  | .rlcA => [0xCB, 0x07]
  | .rrcB => [0xCB, 0x08]
  | .rrcC => [0xCB, 0x09]
  | .rrcD => [0xCB, 0x0A]
  | .rrcE => [0xCB, 0x0B]
  | .rrcH => [0xCB, 0x0C]
  | .rrcL => [0xCB, 0x0D]
  | .rrcMHL => [0xCB, 0x0E]
  | .rrcA => [0xCB, 0x0F]
  | .rlB => [0xCB, 0x10]
  | .rlC => [0xCB, 0x11]
  | .rlD => [0xCB, 0x12]
  | .rlE => [0xCB, 0x13]
  | .rlH => [0xCB, 0x14]
  | .rlL => [0xCB, 0x15]
  | .rlMHL => [0xCB, 0x16]
  | .rlA => [0xCB, 0x17]
  | .rrB => [0xCB, 0x18]
  | .rrC => [0xCB, 0x19]
  | .rrD => [0xCB, 0x1A]
  | .rrE => [0xCB, 0x1B]
  | .rrH => [0xCB, 0x1C]
  | .rrL => [0xCB, 0x1D]
  | .rrMHL => [0xCB, 0x1E]
  | .rrA => [0xCB, 0x1F]
  | .slaB => [0xCB, 0x20]
  | .slaC => [0xCB, 0x21]
  | .slaD => [0xCB, 0x22]
  | .slaE => [0xCB, 0x23]
  | .slaH => [0xCB, 0x24]
  | .slaL => [0xCB, 0x25]
  | .slaMHL => [0xCB, 0x26]
  | .slaA => [0xCB, 0x27]
  | .sraB => [0xCB, 0x28]
  | .sraC => [0xCB, 0x29]
  | .sraD => [0xCB, 0x2A]
  | .sraE => [0xCB, 0x2B]
  | .sraH => [0xCB, 0x2C]
  | .sraL => [0xCB, 0x2D]
  | .sraMHL => [0xCB, 0x2E]
  | .sraA => [0xCB, 0x2F]
  | .swapB => [0xCB, 0x30]
  | .swapC => [0xCB, 0x31]
  | .swapD => [0xCB, 0x32]
  | .swapE => [0xCB, 0x33]
  | .swapH => [0xCB, 0x34]
  | .swapL => [0xCB, 0x35]
  | .swapMHL => [0xCB, 0x36]
  | .swapA => [0xCB, 0x37]
  | .srlB => [0xCB, 0x38]
  | .srlC => [0xCB, 0x39]
  | .srlD => [0xCB, 0x3A]
  | .srlE => [0xCB, 0x3B]
  | .srlH => [0xCB, 0x3C]
  | .srlL => [0xCB, 0x3D]
  | .srlMHL => [0xCB, 0x3E]
  | .srlA => [0xCB, 0x3F]
  | .bit0B => [0xCB, 0x40]
  | .bit0C => [0xCB, 0x41]
  | .bit0D => [0xCB, 0x42]
  | .bit0E => [0xCB, 0x43]
  | .bit0H => [0xCB, 0x44]
  | .bit0L => [0xCB, 0x45]
  | .bit0MHL => [0xCB, 0x46]
  | .bit0A => [0xCB, 0x47]
  | .bit1B => [0xCB, 0x48]
  | .bit1C => [0xCB, 0x49]
  | .bit1D => [0xCB, 0x4A]
  | .bit1E => [0xCB, 0x4B]
  | .bit1H => [0xCB, 0x4C]
  | .bit1L => [0xCB, 0x4D]
  | .bit1MHL => [0xCB, 0x4E]
  | .bit1A => [0xCB, 0x4F]
  | .bit2B => [0xCB, 0x50]
  | .bit2C => [0xCB, 0x51]
  | .bit2D => [0xCB, 0x52]
  | .bit2E => [0xCB, 0x53]
  | .bit2H => [0xCB, 0x54]
  | .bit2L => [0xCB, 0x55]
  | .bit2MHL => [0xCB, 0x56]
  | .bit2A => [0xCB, 0x57]
  | .bit3B => [0xCB, 0x58]
  | .bit3C => [0xCB, 0x59]
  | .bit3D => [0xCB, 0x5A]
  | .bit3E => [0xCB, 0x5B]
  | .bit3H => [0xCB, 0x5C]
  | .bit3L => [0xCB, 0x5D]
  | .bit3MHL => [0xCB, 0x5E]
  | .bit3A => [0xCB, 0x5F]
  | .bit4B => [0xCB, 0x60]
  | .bit4C => [0xCB, 0x61]
  | .bit4D => [0xCB, 0x62]
  | .bit4E => [0xCB, 0x63]
  | .bit4H => [0xCB, 0x64]
  | .bit4L => [0xCB, 0x65]
  | .bit4MHL => [0xCB, 0x66]
  | .bit4A => [0xCB, 0x67]
  | .bit5B => [0xCB, 0x68]
  | .bit5C => [0xCB, 0x69]
  | .bit5D => [0xCB, 0x6A]
  | .bit5E => [0xCB, 0x6B]
  | .bit5H => [0xCB, 0x6C]
  | .bit5L => [0xCB, 0x6D]
  | .bit5MHL => [0xCB, 0x6E]
  | .bit5A => [0xCB, 0x6F]
  | .bit6B => [0xCB, 0x70]
  | .bit6C => [0xCB, 0x71]
  | .bit6D => [0xCB, 0x72]
  | .bit6E => [0xCB, 0x73]
  | .bit6H => [0xCB, 0x74]
  | .bit6L => [0xCB, 0x75]
  | .bit6MHL => [0xCB, 0x76]
  | .bit6A => [0xCB, 0x77]
  | .bit7B => [0xCB, 0x78]
  | .bit7C => [0xCB, 0x79]
  | .bit7D => [0xCB, 0x7A]
  | .bit7E => [0xCB, 0x7B]
  | .bit7H => [0xCB, 0x7C]
  | .bit7L => [0xCB, 0x7D]
  | .bit7MHL => [0xCB, 0x7E]
  | .bit7A => [0xCB, 0x7F]
  | .res0B => [0xCB, 0x80]
  | .res0C => [0xCB, 0x81]
  | .res0D => [0xCB, 0x82]
  | .res0E => [0xCB, 0x83]
  | .res0H => [0xCB, 0x84]
  | .res0L => [0xCB, 0x85]
  | .res0MHL => [0xCB, 0x86]
  | .res0A => [0xCB, 0x87]
  | .res1B => [0xCB, 0x88]
  | .res1C => [0xCB, 0x89]
  | .res1D => [0xCB, 0x8A]
  | .res1E => [0xCB, 0x8B]
  | .res1H => [0xCB, 0x8C]
  | .res1L => [0xCB, 0x8D]
  | .res1MHL => [0xCB, 0x8E]
  | .res1A => [0xCB, 0x8F]
  | .res2B => [0xCB, 0x90]
  | .res2C => [0xCB, 0x91]
  | .res2D => [0xCB, 0x92]
  | .res2E => [0xCB, 0x93]
  | .res2H => [0xCB, 0x94]
  | .res2L => [0xCB, 0x95]
  | .res2MHL => [0xCB, 0x96]
  | .res2A => [0xCB, 0x97]
  | .res3B => [0xCB, 0x98]
  | .res3C => [0xCB, 0x99]
  | .res3D => [0xCB, 0x9A]
  | .res3E => [0xCB, 0x9B]
  | .res3H => [0xCB, 0x9C]
  | .res3L => [0xCB, 0x9D]
  | .res3MHL => [0xCB, 0x9E]
  | .res3A => [0xCB, 0x9F]
  | .res4B => [0xCB, 0xA0]
  | .res4C => [0xCB, 0xA1]
  | .res4D => [0xCB, 0xA2]
  | .res4E => [0xCB, 0xA3]
  | .res4H => [0xCB, 0xA4]
  | .res4L => [0xCB, 0xA5]
  | .res4MHL => [0xCB, 0xA6]
  | .res4A => [0xCB, 0xA7]
  | .res5B => [0xCB, 0xA8]
  | .res5C => [0xCB, 0xA9]
  | .res5D => [0xCB, 0xAA]
  | .res5E => [0xCB, 0xAB]
  | .res5H => [0xCB, 0xAC]
  | .res5L => [0xCB, 0xAD]
  | .res5MHL => [0xCB, 0xAE]
  | .res5A => [0xCB, 0xAF]
  | .res6B => [0xCB, 0xB0]
  | .res6C => [0xCB, 0xB1]
  | .res6D => [0xCB, 0xB2]
  | .res6E => [0xCB, 0xB3]
  | .res6H => [0xCB, 0xB4]
  | .res6L => [0xCB, 0xB5]
  | .res6MHL => [0xCB, 0xB6]
  | .res6A => [0xCB, 0xB7]
  | .res7B => [0xCB, 0xB8]
  | .res7C => [0xCB, 0xB9]
  | .res7D => [0xCB, 0xBA]
  | .res7E => [0xCB, 0xBB]
  | .res7H => [0xCB, 0xBC]
  | .res7L => [0xCB, 0xBD]
  | .res7MHL => [0xCB, 0xBE]
  | .res7A => [0xCB, 0xBF]
  | .set0B => [0xCB, 0xC0]
  | .set0C => [0xCB, 0xC1]
  | .set0D => [0xCB, 0xC2]
  | .set0E => [0xCB, 0xC3]
  | .set0H => [0xCB, 0xC4]
  | .set0L => [0xCB, 0xC5]
  | .set0MHL => [0xCB, 0xC6]
  | .set0A => [0xCB, 0xC7]
  | .set1B => [0xCB, 0xC8]
  | .set1C => [0xCB, 0xC9]
  | .set1D => [0xCB, 0xCA]
  | .set1E => [0xCB, 0xCB]
  | .set1H => [0xCB, 0xCC]
  | .set1L => [0xCB, 0xCD]
  | .set1MHL => [0xCB, 0xCE]
  | .set1A => [0xCB, 0xCF]
  | .set2B => [0xCB, 0xD0]
  | .set2C => [0xCB, 0xD1]
  | .set2D => [0xCB, 0xD2]
  | .set2E => [0xCB, 0xD3]
  | .set2H => [0xCB, 0xD4]
  | .set2L => [0xCB, 0xD5]
  | .set2MHL => [0xCB, 0xD6]
  | .set2A => [0xCB, 0xD7]
  | .set3B => [0xCB, 0xD8]
  | .set3C => [0xCB, 0xD9]
  | .set3D => [0xCB, 0xDA]
  | .set3E => [0xCB, 0xDB]
  | .set3H => [0xCB, 0xDC]
  | .set3L => [0xCB, 0xDD]
  | .set3MHL => [0xCB, 0xDE]
  | .set3A => [0xCB, 0xDF]
  | .set4B => [0xCB, 0xE0]
  | .set4C => [0xCB, 0xE1]
  | .set4D => [0xCB, 0xE2]
  | .set4E => [0xCB, 0xE3]
  | .set4H => [0xCB, 0xE4]
  | .set4L => [0xCB, 0xE5]
  | .set4MHL => [0xCB, 0xE6]
  | .set4A => [0xCB, 0xE7]
  | .set5B => [0xCB, 0xE8]
  | .set5C => [0xCB, 0xE9]
  | .set5D => [0xCB, 0xEA]
  | .set5E => [0xCB, 0xEB]
  | .set5H => [0xCB, 0xEC]
  | .set5L => [0xCB, 0xED]
  | .set5MHL => [0xCB, 0xEE]
  | .set5A => [0xCB, 0xEF]
  | .set6B => [0xCB, 0xF0]
  | .set6C => [0xCB, 0xF1]
  | .set6D => [0xCB, 0xF2]
  | .set6E => [0xCB, 0xF3]
  | .set6H => [0xCB, 0xF4]
  | .set6L => [0xCB, 0xF5]
  | .set6MHL => [0xCB, 0xF6]
  | .set6A => [0xCB, 0xF7]
  | .set7B => [0xCB, 0xF8]
  | .set7C => [0xCB, 0xF9]
  | .set7D => [0xCB, 0xFA]
  | .set7E => [0xCB, 0xFB]
  | .set7H => [0xCB, 0xFC]
  | .set7L => [0xCB, 0xFD]
  | .set7MHL => [0xCB, 0xFE]
  | .set7A => [0xCB, 0xFF]

/-- The instruction the decoder reads from the bits `w` of a row of the opcode table: the bytes of `w`, least significant
first, then zeros up to the longest instruction (three bytes). `nbits` says how many bits the table gives the row; the bits
above it are 0. -/
def decodeTableWord (nbits w : Nat) : Option Instr :=
  match decode (bytesOf 3 (w % 2 ^ nbits)) with
  | .ok (i, _) => some i
  | .error _ => none

end Sys2Proof
end

