-- ==== Sys2Proof/Machine/System.lean ====
section
/-! DEFINITION. The system instructions, the prefix and the undefined opcodes (46_system.md R370 to R377). Each meaning acts on the state in
which all bytes of the instruction have been fetched (notes/assumptions/1.md). -/

namespace Sys2Proof.Machine

/-! ## STOP (R372, R377) -/

/-- One row of the STOP table: the columns length, divider, speed, status after. -/
structure StopRow where
  twoBytes : Bool
  divider : Bool
  toggle : Bool
  after : Status
deriving DecidableEq, Repr

/-- The STOP table on its three inputs (R377). -/
def stopRow (button armed pending : Bool) : StopRow :=
  match button, armed, pending with
  | false, false, false => { twoBytes := true, divider := true, toggle := false, after := .stopped }
  | false, false, true => { twoBytes := false, divider := true, toggle := false, after := .stopped }
  | true, _, false => { twoBytes := true, divider := false, toggle := false, after := .halted }
  | true, _, true => { twoBytes := false, divider := false, toggle := false, after := .active }
  | false, true, false => { twoBytes := true, divider := true, toggle := true, after := .active }
  | false, true, true => { twoBytes := false, divider := true, toggle := true, after := .active }

/-- The other speed. -/
def Speed.other : Speed → Speed
  | .normal => .double
  | .double => .normal

/-- The row that holds in a state; `armed` is always 0 in Mono (R372; notes/assumptions/18.md). -/
def State.stopRow (s : State) : StopRow :=
  Sys2Proof.Machine.stopRow (decide (s.joypad.lines ≠ 0b1111)) (s.cpu.speedArmed && decide (s.cfg.mode = .color))
    (decide (s.irq.pending ≠ 0))

/-- What a row of the table does, in the order of R372; the byte a two-byte STOP skips is not read. -/
def StopRow.apply (r : StopRow) (s : State) : State :=
  let s := if r.twoBytes then advancePc s else s
  let s := if r.divider then divReset s else s
  let s := if r.toggle then { s with cpu.speed := s.cpu.speed.other, cpu.speedArmed := false } else s
  { s with cpu.status := r.after }

/-- STOP. -/
def stopNow (s : State) : State := s.stopRow.apply s

/-! ## The prefix (R375; 30_encoding.md R180) -/

/-- The row of the extended table that `op2` selects, by its fields x, y, z (notes/assumptions/17.md). -/
def extended (op2 : Byte) (s : State) : State :=
  let y := op2.toNat / 8 % 8
  let o := Opd8.ofCode (op2.toNat % 8)
  match op2.toNat / 64 with
  | 0 => rotOpd (RotOp.ofCode y) o s
  | 1 => bitOpd y o s
  | 2 => resOpd y o s
  | _ => setOpd y o s

/-! ## The instructions -/

/-- `NOP` (R370). -/
def execNop (s : State) : Result := .next s

/-- `HALT` (R371). -/
def execHalt (s : State) : Result := .next { s with cpu.status := .halted }

/-- `STOP` (R372). -/
def execStop (s : State) : Result := .next (Sys2Proof.Machine.stopNow s)

/-- `DI` (R373). -/
def execDi (s : State) : Result := .next { s with cpu.ime := false, cpu.eiDelay := false }

/-- `EI` (R374). -/
def execEi (s : State) : Result := .next { s with cpu.eiDelay := true }

/-- `PREFIX CB` (R375). -/
def execPrefixCB (op2 : Byte) (s : State) : Result := .next (extended op2 s)

/-- `ILLEGAL_D3` (R376). -/
def execIllegalD3 (s : State) : Result := .next (raiseFatal (.unimplementedOpcode 0xD3 (s.cpu.pc - 1)) s)

/-- `ILLEGAL_DB` (R376). -/
def execIllegalDB (s : State) : Result := .next (raiseFatal (.unimplementedOpcode 0xDB (s.cpu.pc - 1)) s)

/-- `ILLEGAL_DD` (R376). -/
def execIllegalDD (s : State) : Result := .next (raiseFatal (.unimplementedOpcode 0xDD (s.cpu.pc - 1)) s)

/-- `ILLEGAL_E3` (R376). -/
def execIllegalE3 (s : State) : Result := .next (raiseFatal (.unimplementedOpcode 0xE3 (s.cpu.pc - 1)) s)

/-- `ILLEGAL_E4` (R376). -/
def execIllegalE4 (s : State) : Result := .next (raiseFatal (.unimplementedOpcode 0xE4 (s.cpu.pc - 1)) s)

/-- `ILLEGAL_EB` (R376). -/
def execIllegalEB (s : State) : Result := .next (raiseFatal (.unimplementedOpcode 0xEB (s.cpu.pc - 1)) s)

/-- `ILLEGAL_EC` (R376). -/
def execIllegalEC (s : State) : Result := .next (raiseFatal (.unimplementedOpcode 0xEC (s.cpu.pc - 1)) s)

/-- `ILLEGAL_ED` (R376). -/
def execIllegalED (s : State) : Result := .next (raiseFatal (.unimplementedOpcode 0xED (s.cpu.pc - 1)) s)

/-- `ILLEGAL_F4` (R376). -/
def execIllegalF4 (s : State) : Result := .next (raiseFatal (.unimplementedOpcode 0xF4 (s.cpu.pc - 1)) s)

/-- `ILLEGAL_FC` (R376). -/
def execIllegalFC (s : State) : Result := .next (raiseFatal (.unimplementedOpcode 0xFC (s.cpu.pc - 1)) s)

/-- `ILLEGAL_FD` (R376). -/
def execIllegalFD (s : State) : Result := .next (raiseFatal (.unimplementedOpcode 0xFD (s.cpu.pc - 1)) s)

end Sys2Proof.Machine
end

