-- ==== Sys2Proof/Machine/Dispatch.lean ====
section
/-! DEFINITION. Dispatch: one arm per constructor of Instr, each one direct call of its meaning. -/

namespace Sys2Proof.Machine

/-- What an instruction does, once all its bytes have been fetched. -/
def exec (i : Instr) (s : State) : Host.Outcome State Fault Refusal :=
  match i with
  | .nop => Sys2Proof.Machine.execNop s
  | .ldBCnn nn => Sys2Proof.Machine.execLdBCnn nn s
  | .ldMBCA => Sys2Proof.Machine.execLdMBCA s
  | .incBC => Sys2Proof.Machine.execIncBC s
  | .incB => Sys2Proof.Machine.execIncB s
  | .decB => Sys2Proof.Machine.execDecB s
  | .ldBn n => Sys2Proof.Machine.execLdBn n s
  | .rlca => Sys2Proof.Machine.execRlca s
  | .ldMnnSP nn => Sys2Proof.Machine.execLdMnnSP nn s
  | .addHLBC => Sys2Proof.Machine.execAddHLBC s
  | .ldAMBC => Sys2Proof.Machine.execLdAMBC s
  | .decBC => Sys2Proof.Machine.execDecBC s
  | .incC => Sys2Proof.Machine.execIncC s
  | .decC => Sys2Proof.Machine.execDecC s
  | .ldCn n => Sys2Proof.Machine.execLdCn n s
  | .rrca => Sys2Proof.Machine.execRrca s
  | .stop => Sys2Proof.Machine.execStop s
  | .ldDEnn nn => Sys2Proof.Machine.execLdDEnn nn s
  | .ldMDEA => Sys2Proof.Machine.execLdMDEA s
  | .incDE => Sys2Proof.Machine.execIncDE s
  | .incD => Sys2Proof.Machine.execIncD s
  | .decD => Sys2Proof.Machine.execDecD s
  | .ldDn n => Sys2Proof.Machine.execLdDn n s
  | .rla => Sys2Proof.Machine.execRla s
  | .jre e => Sys2Proof.Machine.execJre e s
  | .addHLDE => Sys2Proof.Machine.execAddHLDE s
  | .ldAMDE => Sys2Proof.Machine.execLdAMDE s
  | .decDE => Sys2Proof.Machine.execDecDE s
  | .incE => Sys2Proof.Machine.execIncE s
  | .decE => Sys2Proof.Machine.execDecE s
  | .ldEn n => Sys2Proof.Machine.execLdEn n s
  | .rra => Sys2Proof.Machine.execRra s
  | .jrNZe e => Sys2Proof.Machine.execJrNZe e s
  | .ldHLnn nn => Sys2Proof.Machine.execLdHLnn nn s
  | .ldMHLIncA => Sys2Proof.Machine.execLdMHLIncA s
  | .incHL => Sys2Proof.Machine.execIncHL s
  | .incH => Sys2Proof.Machine.execIncH s
  | .decH => Sys2Proof.Machine.execDecH s
  | .ldHn n => Sys2Proof.Machine.execLdHn n s
  | .daa => Sys2Proof.Machine.execDaa s
  | .jrZe e => Sys2Proof.Machine.execJrZe e s
  | .addHLHL => Sys2Proof.Machine.execAddHLHL s
  | .ldAMHLInc => Sys2Proof.Machine.execLdAMHLInc s
  | .decHL => Sys2Proof.Machine.execDecHL s
  | .incL => Sys2Proof.Machine.execIncL s
  | .decL => Sys2Proof.Machine.execDecL s
  | .ldLn n => Sys2Proof.Machine.execLdLn n s
  | .cpl => Sys2Proof.Machine.execCpl s
  | .jrNCe e => Sys2Proof.Machine.execJrNCe e s
  | .ldSPnn nn => Sys2Proof.Machine.execLdSPnn nn s
  | .ldMHLDecA => Sys2Proof.Machine.execLdMHLDecA s
  | .incSP => Sys2Proof.Machine.execIncSP s
  | .incMHL => Sys2Proof.Machine.execIncMHL s
  | .decMHL => Sys2Proof.Machine.execDecMHL s
  | .ldMHLn n => Sys2Proof.Machine.execLdMHLn n s
  | .scf => Sys2Proof.Machine.execScf s
  | .jrCe e => Sys2Proof.Machine.execJrCe e s
  | .addHLSP => Sys2Proof.Machine.execAddHLSP s
  | .ldAMHLDec => Sys2Proof.Machine.execLdAMHLDec s
  | .decSP => Sys2Proof.Machine.execDecSP s
  | .incA => Sys2Proof.Machine.execIncA s
  | .decA => Sys2Proof.Machine.execDecA s
  | .ldAn n => Sys2Proof.Machine.execLdAn n s
  | .ccf => Sys2Proof.Machine.execCcf s
  | .ldBB => Sys2Proof.Machine.execLdBB s
  | .ldBC => Sys2Proof.Machine.execLdBC s
  | .ldBD => Sys2Proof.Machine.execLdBD s
  | .ldBE => Sys2Proof.Machine.execLdBE s
  | .ldBH => Sys2Proof.Machine.execLdBH s
  | .ldBL => Sys2Proof.Machine.execLdBL s
  | .ldBMHL => Sys2Proof.Machine.execLdBMHL s
  | .ldBA => Sys2Proof.Machine.execLdBA s
  | .ldCB => Sys2Proof.Machine.execLdCB s
  | .ldCC => Sys2Proof.Machine.execLdCC s
  | .ldCD => Sys2Proof.Machine.execLdCD s
  | .ldCE => Sys2Proof.Machine.execLdCE s
  | .ldCH => Sys2Proof.Machine.execLdCH s
  | .ldCL => Sys2Proof.Machine.execLdCL s
  | .ldCMHL => Sys2Proof.Machine.execLdCMHL s
  | .ldCA => Sys2Proof.Machine.execLdCA s
  | .ldDB => Sys2Proof.Machine.execLdDB s
  | .ldDC => Sys2Proof.Machine.execLdDC s
  | .ldDD => Sys2Proof.Machine.execLdDD s
  | .ldDE => Sys2Proof.Machine.execLdDE s
  | .ldDH => Sys2Proof.Machine.execLdDH s
  | .ldDL => Sys2Proof.Machine.execLdDL s
  | .ldDMHL => Sys2Proof.Machine.execLdDMHL s
  | .ldDA => Sys2Proof.Machine.execLdDA s
  | .ldEB => Sys2Proof.Machine.execLdEB s
  | .ldEC => Sys2Proof.Machine.execLdEC s
  | .ldED => Sys2Proof.Machine.execLdED s
  | .ldEE => Sys2Proof.Machine.execLdEE s
  | .ldEH => Sys2Proof.Machine.execLdEH s
  | .ldEL => Sys2Proof.Machine.execLdEL s
  | .ldEMHL => Sys2Proof.Machine.execLdEMHL s
  | .ldEA => Sys2Proof.Machine.execLdEA s
  | .ldHB => Sys2Proof.Machine.execLdHB s
  | .ldHC => Sys2Proof.Machine.execLdHC s
  | .ldHD => Sys2Proof.Machine.execLdHD s
  | .ldHE => Sys2Proof.Machine.execLdHE s
  | .ldHH => Sys2Proof.Machine.execLdHH s
  | .ldHL => Sys2Proof.Machine.execLdHL s
  | .ldHMHL => Sys2Proof.Machine.execLdHMHL s
  | .ldHA => Sys2Proof.Machine.execLdHA s
  | .ldLB => Sys2Proof.Machine.execLdLB s
  | .ldLC => Sys2Proof.Machine.execLdLC s
  | .ldLD => Sys2Proof.Machine.execLdLD s
  | .ldLE => Sys2Proof.Machine.execLdLE s
  | .ldLH => Sys2Proof.Machine.execLdLH s
  | .ldLL => Sys2Proof.Machine.execLdLL s
  | .ldLMHL => Sys2Proof.Machine.execLdLMHL s
  | .ldLA => Sys2Proof.Machine.execLdLA s
  | .ldMHLB => Sys2Proof.Machine.execLdMHLB s
  | .ldMHLC => Sys2Proof.Machine.execLdMHLC s
  | .ldMHLD => Sys2Proof.Machine.execLdMHLD s
  | .ldMHLE => Sys2Proof.Machine.execLdMHLE s
  | .ldMHLH => Sys2Proof.Machine.execLdMHLH s
  | .ldMHLL => Sys2Proof.Machine.execLdMHLL s
  | .halt => Sys2Proof.Machine.execHalt s
  | .ldMHLA => Sys2Proof.Machine.execLdMHLA s
  | .ldAB => Sys2Proof.Machine.execLdAB s
  | .ldAC => Sys2Proof.Machine.execLdAC s
  | .ldAD => Sys2Proof.Machine.execLdAD s
  | .ldAE => Sys2Proof.Machine.execLdAE s
  | .ldAH => Sys2Proof.Machine.execLdAH s
  | .ldAL => Sys2Proof.Machine.execLdAL s
  | .ldAMHL => Sys2Proof.Machine.execLdAMHL s
  | .ldAA => Sys2Proof.Machine.execLdAA s
  | .addAB => Sys2Proof.Machine.execAddAB s
  | .addAC => Sys2Proof.Machine.execAddAC s
  | .addAD => Sys2Proof.Machine.execAddAD s
  | .addAE => Sys2Proof.Machine.execAddAE s
  | .addAH => Sys2Proof.Machine.execAddAH s
  | .addAL => Sys2Proof.Machine.execAddAL s
  | .addAMHL => Sys2Proof.Machine.execAddAMHL s
  | .addAA => Sys2Proof.Machine.execAddAA s
  | .adcAB => Sys2Proof.Machine.execAdcAB s
  | .adcAC => Sys2Proof.Machine.execAdcAC s
  | .adcAD => Sys2Proof.Machine.execAdcAD s
  | .adcAE => Sys2Proof.Machine.execAdcAE s
  | .adcAH => Sys2Proof.Machine.execAdcAH s
  | .adcAL => Sys2Proof.Machine.execAdcAL s
  | .adcAMHL => Sys2Proof.Machine.execAdcAMHL s
  | .adcAA => Sys2Proof.Machine.execAdcAA s
  | .subB => Sys2Proof.Machine.execSubB s
  | .subC => Sys2Proof.Machine.execSubC s
  | .subD => Sys2Proof.Machine.execSubD s
  | .subE => Sys2Proof.Machine.execSubE s
  | .subH => Sys2Proof.Machine.execSubH s
  | .subL => Sys2Proof.Machine.execSubL s
  | .subMHL => Sys2Proof.Machine.execSubMHL s
  | .subA => Sys2Proof.Machine.execSubA s
  | .sbcAB => Sys2Proof.Machine.execSbcAB s
  | .sbcAC => Sys2Proof.Machine.execSbcAC s
  | .sbcAD => Sys2Proof.Machine.execSbcAD s
  | .sbcAE => Sys2Proof.Machine.execSbcAE s
  | .sbcAH => Sys2Proof.Machine.execSbcAH s
  | .sbcAL => Sys2Proof.Machine.execSbcAL s
  | .sbcAMHL => Sys2Proof.Machine.execSbcAMHL s
  | .sbcAA => Sys2Proof.Machine.execSbcAA s
  | .andB => Sys2Proof.Machine.execAndB s
  | .andC => Sys2Proof.Machine.execAndC s
  | .andD => Sys2Proof.Machine.execAndD s
  | .andE => Sys2Proof.Machine.execAndE s
  | .andH => Sys2Proof.Machine.execAndH s
  | .andL => Sys2Proof.Machine.execAndL s
  | .andMHL => Sys2Proof.Machine.execAndMHL s
  | .andA => Sys2Proof.Machine.execAndA s
  | .xorB => Sys2Proof.Machine.execXorB s
  | .xorC => Sys2Proof.Machine.execXorC s
  | .xorD => Sys2Proof.Machine.execXorD s
  | .xorE => Sys2Proof.Machine.execXorE s
  | .xorH => Sys2Proof.Machine.execXorH s
  | .xorL => Sys2Proof.Machine.execXorL s
  | .xorMHL => Sys2Proof.Machine.execXorMHL s
  | .xorA => Sys2Proof.Machine.execXorA s
  | .orB => Sys2Proof.Machine.execOrB s
  | .orC => Sys2Proof.Machine.execOrC s
  | .orD => Sys2Proof.Machine.execOrD s
  | .orE => Sys2Proof.Machine.execOrE s
  | .orH => Sys2Proof.Machine.execOrH s
  | .orL => Sys2Proof.Machine.execOrL s
  | .orMHL => Sys2Proof.Machine.execOrMHL s
  | .orA => Sys2Proof.Machine.execOrA s
  | .cpB => Sys2Proof.Machine.execCpB s
  | .cpC => Sys2Proof.Machine.execCpC s
  | .cpD => Sys2Proof.Machine.execCpD s
  | .cpE => Sys2Proof.Machine.execCpE s
  | .cpH => Sys2Proof.Machine.execCpH s
  | .cpL => Sys2Proof.Machine.execCpL s
  | .cpMHL => Sys2Proof.Machine.execCpMHL s
  | .cpA => Sys2Proof.Machine.execCpA s
  | .retNZ => Sys2Proof.Machine.execRetNZ s
  | .popBC => Sys2Proof.Machine.execPopBC s
  | .jpNZnn nn => Sys2Proof.Machine.execJpNZnn nn s
  | .jpnn nn => Sys2Proof.Machine.execJpnn nn s
  | .callNZnn nn => Sys2Proof.Machine.execCallNZnn nn s
  | .pushBC => Sys2Proof.Machine.execPushBC s
  | .addAn n => Sys2Proof.Machine.execAddAn n s
  | .rst00 => Sys2Proof.Machine.execRst00 s
  | .retZ => Sys2Proof.Machine.execRetZ s
  | .ret => Sys2Proof.Machine.execRet s
  | .jpZnn nn => Sys2Proof.Machine.execJpZnn nn s
  | .prefixCB op2 => Sys2Proof.Machine.execPrefixCB op2 s
  | .callZnn nn => Sys2Proof.Machine.execCallZnn nn s
  | .callnn nn => Sys2Proof.Machine.execCallnn nn s
  | .adcAn n => Sys2Proof.Machine.execAdcAn n s
  | .rst08 => Sys2Proof.Machine.execRst08 s
  | .retNC => Sys2Proof.Machine.execRetNC s
  | .popDE => Sys2Proof.Machine.execPopDE s
  | .jpNCnn nn => Sys2Proof.Machine.execJpNCnn nn s
  | .illegalD3 => Sys2Proof.Machine.execIllegalD3 s
  | .callNCnn nn => Sys2Proof.Machine.execCallNCnn nn s
  | .pushDE => Sys2Proof.Machine.execPushDE s
  | .subn n => Sys2Proof.Machine.execSubn n s
  | .rst10 => Sys2Proof.Machine.execRst10 s
  | .retC => Sys2Proof.Machine.execRetC s
  | .reti => Sys2Proof.Machine.execReti s
  | .jpCnn nn => Sys2Proof.Machine.execJpCnn nn s
  | .illegalDB => Sys2Proof.Machine.execIllegalDB s
  | .callCnn nn => Sys2Proof.Machine.execCallCnn nn s
  | .illegalDD => Sys2Proof.Machine.execIllegalDD s
  | .sbcAn n => Sys2Proof.Machine.execSbcAn n s
  | .rst18 => Sys2Proof.Machine.execRst18 s
  | .ldhMnA n => Sys2Proof.Machine.execLdhMnA n s
  | .popHL => Sys2Proof.Machine.execPopHL s
  | .ldhMCA => Sys2Proof.Machine.execLdhMCA s
  | .illegalE3 => Sys2Proof.Machine.execIllegalE3 s
  | .illegalE4 => Sys2Proof.Machine.execIllegalE4 s
  | .pushHL => Sys2Proof.Machine.execPushHL s
  | .andn n => Sys2Proof.Machine.execAndn n s
  | .rst20 => Sys2Proof.Machine.execRst20 s
  | .addSPe e => Sys2Proof.Machine.execAddSPe e s
  | .jpHL => Sys2Proof.Machine.execJpHL s
  | .ldMnnA nn => Sys2Proof.Machine.execLdMnnA nn s
  | .illegalEB => Sys2Proof.Machine.execIllegalEB s
  | .illegalEC => Sys2Proof.Machine.execIllegalEC s
  | .illegalED => Sys2Proof.Machine.execIllegalED s
  | .xorn n => Sys2Proof.Machine.execXorn n s
  | .rst28 => Sys2Proof.Machine.execRst28 s
  | .ldhAMn n => Sys2Proof.Machine.execLdhAMn n s
  | .popAF => Sys2Proof.Machine.execPopAF s
  | .ldhAMC => Sys2Proof.Machine.execLdhAMC s
  | .di => Sys2Proof.Machine.execDi s
  | .illegalF4 => Sys2Proof.Machine.execIllegalF4 s
  | .pushAF => Sys2Proof.Machine.execPushAF s
  | .orn n => Sys2Proof.Machine.execOrn n s
  | .rst30 => Sys2Proof.Machine.execRst30 s
  | .ldHLSPe e => Sys2Proof.Machine.execLdHLSPe e s
  | .ldSPHL => Sys2Proof.Machine.execLdSPHL s
  | .ldAMnn nn => Sys2Proof.Machine.execLdAMnn nn s
  | .ei => Sys2Proof.Machine.execEi s
  | .illegalFC => Sys2Proof.Machine.execIllegalFC s
  | .illegalFD => Sys2Proof.Machine.execIllegalFD s
  | .cpn n => Sys2Proof.Machine.execCpn n s
  | .rst38 => Sys2Proof.Machine.execRst38 s
  | .rlcB => Sys2Proof.Machine.execRlcB s
  | .rlcC => Sys2Proof.Machine.execRlcC s
  | .rlcD => Sys2Proof.Machine.execRlcD s
  | .rlcE => Sys2Proof.Machine.execRlcE s
  | .rlcH => Sys2Proof.Machine.execRlcH s
  | .rlcL => Sys2Proof.Machine.execRlcL s
  | .rlcMHL => Sys2Proof.Machine.execRlcMHL s
  | .rlcA => Sys2Proof.Machine.execRlcA s
  | .rrcB => Sys2Proof.Machine.execRrcB s
  | .rrcC => Sys2Proof.Machine.execRrcC s
  | .rrcD => Sys2Proof.Machine.execRrcD s
  | .rrcE => Sys2Proof.Machine.execRrcE s
  | .rrcH => Sys2Proof.Machine.execRrcH s
  | .rrcL => Sys2Proof.Machine.execRrcL s
  | .rrcMHL => Sys2Proof.Machine.execRrcMHL s
  | .rrcA => Sys2Proof.Machine.execRrcA s
  | .rlB => Sys2Proof.Machine.execRlB s
  | .rlC => Sys2Proof.Machine.execRlC s
  | .rlD => Sys2Proof.Machine.execRlD s
  | .rlE => Sys2Proof.Machine.execRlE s
  | .rlH => Sys2Proof.Machine.execRlH s
  | .rlL => Sys2Proof.Machine.execRlL s
  | .rlMHL => Sys2Proof.Machine.execRlMHL s
  | .rlA => Sys2Proof.Machine.execRlA s
  | .rrB => Sys2Proof.Machine.execRrB s
  | .rrC => Sys2Proof.Machine.execRrC s
  | .rrD => Sys2Proof.Machine.execRrD s
  | .rrE => Sys2Proof.Machine.execRrE s
  | .rrH => Sys2Proof.Machine.execRrH s
  | .rrL => Sys2Proof.Machine.execRrL s
  | .rrMHL => Sys2Proof.Machine.execRrMHL s
  | .rrA => Sys2Proof.Machine.execRrA s
  | .slaB => Sys2Proof.Machine.execSlaB s
  | .slaC => Sys2Proof.Machine.execSlaC s
  | .slaD => Sys2Proof.Machine.execSlaD s
  | .slaE => Sys2Proof.Machine.execSlaE s
  | .slaH => Sys2Proof.Machine.execSlaH s
  | .slaL => Sys2Proof.Machine.execSlaL s
  | .slaMHL => Sys2Proof.Machine.execSlaMHL s
  | .slaA => Sys2Proof.Machine.execSlaA s
  | .sraB => Sys2Proof.Machine.execSraB s
  | .sraC => Sys2Proof.Machine.execSraC s
  | .sraD => Sys2Proof.Machine.execSraD s
  | .sraE => Sys2Proof.Machine.execSraE s
  | .sraH => Sys2Proof.Machine.execSraH s
  | .sraL => Sys2Proof.Machine.execSraL s
  | .sraMHL => Sys2Proof.Machine.execSraMHL s
  | .sraA => Sys2Proof.Machine.execSraA s
  | .swapB => Sys2Proof.Machine.execSwapB s
  | .swapC => Sys2Proof.Machine.execSwapC s
  | .swapD => Sys2Proof.Machine.execSwapD s
  | .swapE => Sys2Proof.Machine.execSwapE s
  | .swapH => Sys2Proof.Machine.execSwapH s
  | .swapL => Sys2Proof.Machine.execSwapL s
  | .swapMHL => Sys2Proof.Machine.execSwapMHL s
  | .swapA => Sys2Proof.Machine.execSwapA s
  | .srlB => Sys2Proof.Machine.execSrlB s
  | .srlC => Sys2Proof.Machine.execSrlC s
  | .srlD => Sys2Proof.Machine.execSrlD s
  | .srlE => Sys2Proof.Machine.execSrlE s
  | .srlH => Sys2Proof.Machine.execSrlH s
  | .srlL => Sys2Proof.Machine.execSrlL s
  | .srlMHL => Sys2Proof.Machine.execSrlMHL s
  | .srlA => Sys2Proof.Machine.execSrlA s
  | .bit0B => Sys2Proof.Machine.execBit0B s
  | .bit0C => Sys2Proof.Machine.execBit0C s
  | .bit0D => Sys2Proof.Machine.execBit0D s
  | .bit0E => Sys2Proof.Machine.execBit0E s
  | .bit0H => Sys2Proof.Machine.execBit0H s
  | .bit0L => Sys2Proof.Machine.execBit0L s
  | .bit0MHL => Sys2Proof.Machine.execBit0MHL s
  | .bit0A => Sys2Proof.Machine.execBit0A s
  | .bit1B => Sys2Proof.Machine.execBit1B s
  | .bit1C => Sys2Proof.Machine.execBit1C s
  | .bit1D => Sys2Proof.Machine.execBit1D s
  | .bit1E => Sys2Proof.Machine.execBit1E s
  | .bit1H => Sys2Proof.Machine.execBit1H s
  | .bit1L => Sys2Proof.Machine.execBit1L s
  | .bit1MHL => Sys2Proof.Machine.execBit1MHL s
  | .bit1A => Sys2Proof.Machine.execBit1A s
  | .bit2B => Sys2Proof.Machine.execBit2B s
  | .bit2C => Sys2Proof.Machine.execBit2C s
  | .bit2D => Sys2Proof.Machine.execBit2D s
  | .bit2E => Sys2Proof.Machine.execBit2E s
  | .bit2H => Sys2Proof.Machine.execBit2H s
  | .bit2L => Sys2Proof.Machine.execBit2L s
  | .bit2MHL => Sys2Proof.Machine.execBit2MHL s
  | .bit2A => Sys2Proof.Machine.execBit2A s
  | .bit3B => Sys2Proof.Machine.execBit3B s
  | .bit3C => Sys2Proof.Machine.execBit3C s
  | .bit3D => Sys2Proof.Machine.execBit3D s
  | .bit3E => Sys2Proof.Machine.execBit3E s
  | .bit3H => Sys2Proof.Machine.execBit3H s
  | .bit3L => Sys2Proof.Machine.execBit3L s
  | .bit3MHL => Sys2Proof.Machine.execBit3MHL s
  | .bit3A => Sys2Proof.Machine.execBit3A s
  | .bit4B => Sys2Proof.Machine.execBit4B s
  | .bit4C => Sys2Proof.Machine.execBit4C s
  | .bit4D => Sys2Proof.Machine.execBit4D s
  | .bit4E => Sys2Proof.Machine.execBit4E s
  | .bit4H => Sys2Proof.Machine.execBit4H s
  | .bit4L => Sys2Proof.Machine.execBit4L s
  | .bit4MHL => Sys2Proof.Machine.execBit4MHL s
  | .bit4A => Sys2Proof.Machine.execBit4A s
  | .bit5B => Sys2Proof.Machine.execBit5B s
  | .bit5C => Sys2Proof.Machine.execBit5C s
  | .bit5D => Sys2Proof.Machine.execBit5D s
  | .bit5E => Sys2Proof.Machine.execBit5E s
  | .bit5H => Sys2Proof.Machine.execBit5H s
  | .bit5L => Sys2Proof.Machine.execBit5L s
  | .bit5MHL => Sys2Proof.Machine.execBit5MHL s
  | .bit5A => Sys2Proof.Machine.execBit5A s
  | .bit6B => Sys2Proof.Machine.execBit6B s
  | .bit6C => Sys2Proof.Machine.execBit6C s
  | .bit6D => Sys2Proof.Machine.execBit6D s
  | .bit6E => Sys2Proof.Machine.execBit6E s
  | .bit6H => Sys2Proof.Machine.execBit6H s
  | .bit6L => Sys2Proof.Machine.execBit6L s
  | .bit6MHL => Sys2Proof.Machine.execBit6MHL s
  | .bit6A => Sys2Proof.Machine.execBit6A s
  | .bit7B => Sys2Proof.Machine.execBit7B s
  | .bit7C => Sys2Proof.Machine.execBit7C s
  | .bit7D => Sys2Proof.Machine.execBit7D s
  | .bit7E => Sys2Proof.Machine.execBit7E s
  | .bit7H => Sys2Proof.Machine.execBit7H s
  | .bit7L => Sys2Proof.Machine.execBit7L s
  | .bit7MHL => Sys2Proof.Machine.execBit7MHL s
  | .bit7A => Sys2Proof.Machine.execBit7A s
  | .res0B => Sys2Proof.Machine.execRes0B s
  | .res0C => Sys2Proof.Machine.execRes0C s
  | .res0D => Sys2Proof.Machine.execRes0D s
  | .res0E => Sys2Proof.Machine.execRes0E s
  | .res0H => Sys2Proof.Machine.execRes0H s
  | .res0L => Sys2Proof.Machine.execRes0L s
  | .res0MHL => Sys2Proof.Machine.execRes0MHL s
  | .res0A => Sys2Proof.Machine.execRes0A s
  | .res1B => Sys2Proof.Machine.execRes1B s
  | .res1C => Sys2Proof.Machine.execRes1C s
  | .res1D => Sys2Proof.Machine.execRes1D s
  | .res1E => Sys2Proof.Machine.execRes1E s
  | .res1H => Sys2Proof.Machine.execRes1H s
  | .res1L => Sys2Proof.Machine.execRes1L s
  | .res1MHL => Sys2Proof.Machine.execRes1MHL s
  | .res1A => Sys2Proof.Machine.execRes1A s
  | .res2B => Sys2Proof.Machine.execRes2B s
  | .res2C => Sys2Proof.Machine.execRes2C s
  | .res2D => Sys2Proof.Machine.execRes2D s
  | .res2E => Sys2Proof.Machine.execRes2E s
  | .res2H => Sys2Proof.Machine.execRes2H s
  | .res2L => Sys2Proof.Machine.execRes2L s
  | .res2MHL => Sys2Proof.Machine.execRes2MHL s
  | .res2A => Sys2Proof.Machine.execRes2A s
  | .res3B => Sys2Proof.Machine.execRes3B s
  | .res3C => Sys2Proof.Machine.execRes3C s
  | .res3D => Sys2Proof.Machine.execRes3D s
  | .res3E => Sys2Proof.Machine.execRes3E s
  | .res3H => Sys2Proof.Machine.execRes3H s
  | .res3L => Sys2Proof.Machine.execRes3L s
  | .res3MHL => Sys2Proof.Machine.execRes3MHL s
  | .res3A => Sys2Proof.Machine.execRes3A s
  | .res4B => Sys2Proof.Machine.execRes4B s
  | .res4C => Sys2Proof.Machine.execRes4C s
  | .res4D => Sys2Proof.Machine.execRes4D s
  | .res4E => Sys2Proof.Machine.execRes4E s
  | .res4H => Sys2Proof.Machine.execRes4H s
  | .res4L => Sys2Proof.Machine.execRes4L s
  | .res4MHL => Sys2Proof.Machine.execRes4MHL s
  | .res4A => Sys2Proof.Machine.execRes4A s
  | .res5B => Sys2Proof.Machine.execRes5B s
  | .res5C => Sys2Proof.Machine.execRes5C s
  | .res5D => Sys2Proof.Machine.execRes5D s
  | .res5E => Sys2Proof.Machine.execRes5E s
  | .res5H => Sys2Proof.Machine.execRes5H s
  | .res5L => Sys2Proof.Machine.execRes5L s
  | .res5MHL => Sys2Proof.Machine.execRes5MHL s
  | .res5A => Sys2Proof.Machine.execRes5A s
  | .res6B => Sys2Proof.Machine.execRes6B s
  | .res6C => Sys2Proof.Machine.execRes6C s
  | .res6D => Sys2Proof.Machine.execRes6D s
  | .res6E => Sys2Proof.Machine.execRes6E s
  | .res6H => Sys2Proof.Machine.execRes6H s
  | .res6L => Sys2Proof.Machine.execRes6L s
  | .res6MHL => Sys2Proof.Machine.execRes6MHL s
  | .res6A => Sys2Proof.Machine.execRes6A s
  | .res7B => Sys2Proof.Machine.execRes7B s
  | .res7C => Sys2Proof.Machine.execRes7C s
  | .res7D => Sys2Proof.Machine.execRes7D s
  | .res7E => Sys2Proof.Machine.execRes7E s
  | .res7H => Sys2Proof.Machine.execRes7H s
  | .res7L => Sys2Proof.Machine.execRes7L s
  | .res7MHL => Sys2Proof.Machine.execRes7MHL s
  | .res7A => Sys2Proof.Machine.execRes7A s
  | .set0B => Sys2Proof.Machine.execSet0B s
  | .set0C => Sys2Proof.Machine.execSet0C s
  | .set0D => Sys2Proof.Machine.execSet0D s
  | .set0E => Sys2Proof.Machine.execSet0E s
  | .set0H => Sys2Proof.Machine.execSet0H s
  | .set0L => Sys2Proof.Machine.execSet0L s
  | .set0MHL => Sys2Proof.Machine.execSet0MHL s
  | .set0A => Sys2Proof.Machine.execSet0A s
  | .set1B => Sys2Proof.Machine.execSet1B s
  | .set1C => Sys2Proof.Machine.execSet1C s
  | .set1D => Sys2Proof.Machine.execSet1D s
  | .set1E => Sys2Proof.Machine.execSet1E s
  | .set1H => Sys2Proof.Machine.execSet1H s
  | .set1L => Sys2Proof.Machine.execSet1L s
  | .set1MHL => Sys2Proof.Machine.execSet1MHL s
  | .set1A => Sys2Proof.Machine.execSet1A s
  | .set2B => Sys2Proof.Machine.execSet2B s
  | .set2C => Sys2Proof.Machine.execSet2C s
  | .set2D => Sys2Proof.Machine.execSet2D s
  | .set2E => Sys2Proof.Machine.execSet2E s
  | .set2H => Sys2Proof.Machine.execSet2H s
  | .set2L => Sys2Proof.Machine.execSet2L s
  | .set2MHL => Sys2Proof.Machine.execSet2MHL s
  | .set2A => Sys2Proof.Machine.execSet2A s
  | .set3B => Sys2Proof.Machine.execSet3B s
  | .set3C => Sys2Proof.Machine.execSet3C s
  | .set3D => Sys2Proof.Machine.execSet3D s
  | .set3E => Sys2Proof.Machine.execSet3E s
  | .set3H => Sys2Proof.Machine.execSet3H s
  | .set3L => Sys2Proof.Machine.execSet3L s
  | .set3MHL => Sys2Proof.Machine.execSet3MHL s
  | .set3A => Sys2Proof.Machine.execSet3A s
  | .set4B => Sys2Proof.Machine.execSet4B s
  | .set4C => Sys2Proof.Machine.execSet4C s
  | .set4D => Sys2Proof.Machine.execSet4D s
  | .set4E => Sys2Proof.Machine.execSet4E s
  | .set4H => Sys2Proof.Machine.execSet4H s
  | .set4L => Sys2Proof.Machine.execSet4L s
  | .set4MHL => Sys2Proof.Machine.execSet4MHL s
  | .set4A => Sys2Proof.Machine.execSet4A s
  | .set5B => Sys2Proof.Machine.execSet5B s
  | .set5C => Sys2Proof.Machine.execSet5C s
  | .set5D => Sys2Proof.Machine.execSet5D s
  | .set5E => Sys2Proof.Machine.execSet5E s
  | .set5H => Sys2Proof.Machine.execSet5H s
  | .set5L => Sys2Proof.Machine.execSet5L s
  | .set5MHL => Sys2Proof.Machine.execSet5MHL s
  | .set5A => Sys2Proof.Machine.execSet5A s
  | .set6B => Sys2Proof.Machine.execSet6B s
  | .set6C => Sys2Proof.Machine.execSet6C s
  | .set6D => Sys2Proof.Machine.execSet6D s
  | .set6E => Sys2Proof.Machine.execSet6E s
  | .set6H => Sys2Proof.Machine.execSet6H s
  | .set6L => Sys2Proof.Machine.execSet6L s
  | .set6MHL => Sys2Proof.Machine.execSet6MHL s
  | .set6A => Sys2Proof.Machine.execSet6A s
  | .set7B => Sys2Proof.Machine.execSet7B s
  | .set7C => Sys2Proof.Machine.execSet7C s
  | .set7D => Sys2Proof.Machine.execSet7D s
  | .set7E => Sys2Proof.Machine.execSet7E s
  | .set7H => Sys2Proof.Machine.execSet7H s
  | .set7L => Sys2Proof.Machine.execSet7L s
  | .set7MHL => Sys2Proof.Machine.execSet7MHL s
  | .set7A => Sys2Proof.Machine.execSet7A s

end Sys2Proof.Machine
end

