-- ==== Sys2Proof/Machine/Step.lean ====
section
/-! DEFINITION. One step of the machine (60_exceptions.md R400), and placing an instruction where a step fetches it. -/

namespace Sys2Proof.Machine

/-- Fetch the bytes of the instruction at pc and decode them: the first byte tells how many follow (30_encoding.md R184). The
decoder never fails on the bytes this gives it (Laws/Step.lean). -/
def fetchInstr (s : State) : Except DecodeError Instr × State :=
  let r := fetch8 s
  let rs := fetchBytes (primaryRow r.1).more r.2
  ((decode (r.1 :: rs.1)).map Prod.fst, rs.2)

/-- Parts (6) and (7) of `Step()`: the interrupt check, the fetch, the instruction. The error arm is dead: the fetch gives
the decoder as many bytes as it asks for. -/
def run (s : State) : Result :=
  match fetchInstr (interruptCheck s) with
  | (.ok i, t) => exec i t
  | (.error _, t) => .next t

/-- `Step()` (R400). From a state with the sticky fault there is no step (R431). -/
def step (s : State) : Host.Outcome State Fault Refusal :=
  match s.cpu.fault with
  | some f => .fault (.fatal f)
  | none =>
    match wake s with
    | .waits t => .next t
    | .goes t => run t

/-- The state in which the next step runs the instruction with the bits `w` of a row of the opcode table, laid out as
`decodeTableWord` lays them out: no fault, the processor Active, and the bytes placed at the address and under the banking
that the fetch finds (notes/assumptions/8.md, 19.md). Where the fetch does not read memory (an I/O register, IE, absent
external RAM) there is nothing to place. -/
def State.withFetchWord (s : State) (nbits w : Nat) : State :=
  let s := { s with cpu.fault := none, cpu.status := .active }
  let t := interruptCheck (joypadEvaluate s)
  let seen := { t with ram := s.ram, cart.rom := s.cart.rom, cart.xram := s.cart.xram }
  let placed := pokeList t.cpu.pc (bytesOf 3 (w % 2 ^ nbits)) seen
  { s with ram := placed.ram, cart.rom := placed.cart.rom, cart.xram := placed.cart.xram }

end Sys2Proof.Machine
end

