-- ==== Sys2Proof/Machine/HostPort.lean ====
section
/-! DEFINITION. What the host may do between steps (00_scope.md R23), and nothing else. -/

namespace Sys2Proof.Machine

/-- Replace the button state `JOY`. -/
def State.setJoy (s : State) (joy : Byte) : State := { s with joypad.joy := joy }

/-- Pause: Active or Halted becomes Paused, and the host remembers the old value (60_exceptions.md R426). -/
def State.pause (s : State) : Option (Status × State) :=
  match s.cpu.status with
  | .active => some (.active, { s with cpu.status := .paused })
  | .halted => some (.halted, { s with cpu.status := .paused })
  | .stopped => none
  | .paused => none

/-- Resume with the remembered value (R426). -/
def State.resume (s : State) (old : Status) : State :=
  if s.cpu.status = .paused then { s with cpu.status := old } else s

/-- Take the published sample blocks, oldest first (61_timer_and_sound.md R538). -/
def State.drain (s : State) : List (List (Nat × Nat)) × State :=
  (s.sound.out.published, { s with sound.out.published := [] })

end Sys2Proof.Machine
end

