-- ==== Sys2Proof/Machine/Launch.lean ====
section
/-! DEFINITION. The launch: what happens once, before the first step (70_reset_and_hazards.md R603), from the ROM header
(62_boundary_units.md R570 to R574). -/

namespace Sys2Proof.Machine

/-- The fields of the ROM header that the launch reads (R570). -/
structure Header where
  title : List Byte
  colorFlag : Byte
  typeCode : Byte
  romCode : Byte
  ramCode : Byte
  destination : Byte
deriving DecidableEq, Repr

/-- A character that ends the title: NUL, one with its high bit set, or any other non-printable one (R570;
notes/assumptions/20.md). -/
def endsTitle (v : Byte) : Bool := decide (v.toNat < 0x20 ∨ v.toNat > 0x7E)

/-- The header of an image, at its fixed offsets (R570). -/
def readHeader (image : List Byte) : Header where
  title := ((image.drop 0x134).take 16).takeWhile (fun v => !endsTitle v)
  colorFlag := image.getD 0x143 0
  typeCode := image.getD 0x147 0
  romCode := image.getD 0x148 0
  ramCode := image.getD 0x149 0
  destination := image.getD 0x14A 0

/-- The bank count a ROM size code declares: `2 × 2^code` (R570). -/
def romBanksOf (code : Byte) : Nat := 2 * 2 ^ code.toNat

/-- The bank count of a RAM size code; none above 5 (R570). -/
def ramBanksOf (code : Byte) : Option Nat :=
  match code.toNat with
  | 0 => some 0
  | 1 => some 0
  | 2 => some 1
  | 3 => some 4
  | 4 => some 16
  | 5 => some 8
  | _ => none

/-- What a type code says of a cartridge (R572). -/
structure Features where
  kind : Controller
  ram : Bool
  battery : Bool
  clock : Bool
deriving DecidableEq, Repr

/-- The map from the type code to the controller variant and its features (R572). -/
def featuresOf (code : Byte) : Option Features :=
  match code.toNat with
  | 0x00 => some { kind := .romOnly, ram := false, battery := false, clock := false }
  | 0x01 => some { kind := .controller1, ram := false, battery := false, clock := false }
  | 0x02 => some { kind := .controller1, ram := true, battery := false, clock := false }
  | 0x03 => some { kind := .controller1, ram := true, battery := true, clock := false }
  | 0x08 => some { kind := .romOnly, ram := true, battery := false, clock := false }
  | 0x09 => some { kind := .romOnly, ram := true, battery := true, clock := false }
  | 0x0F => some { kind := .controller3, ram := false, battery := true, clock := true }
  | 0x10 => some { kind := .controller3, ram := true, battery := true, clock := true }
  | 0x11 => some { kind := .controller3, ram := false, battery := false, clock := false }
  | 0x12 => some { kind := .controller3, ram := true, battery := false, clock := false }
  | 0x13 => some { kind := .controller3, ram := true, battery := true, clock := false }
  | 0x19 => some { kind := .controller5, ram := false, battery := false, clock := false }
  | 0x1A => some { kind := .controller5, ram := true, battery := false, clock := false }
  | 0x1B => some { kind := .controller5, ram := true, battery := true, clock := false }
  | 0x1C => some { kind := .controller5, ram := false, battery := false, clock := false }
  | 0x1D => some { kind := .controller5, ram := true, battery := false, clock := false }
  | 0x1E => some { kind := .controller5, ram := true, battery := true, clock := false }
  | _ => none

/-- `P_MODE` from the color flag (R571). -/
def modeOf (flag : Byte) : ConsoleMode := if flag.getLsbD 7 then .color else .mono

/-- What the host supplies besides the image (00_scope.md R7; R571, R574, R604). -/
structure LaunchArgs where
  /-- A mode that the launch forces, whatever the flag says (R571). -/
  force : Option ConsoleMode
  fill : Byte
  irqTail : Bool
  sampleInterval : Nat
  sampleBlock : Nat
  /-- `P_RESET`; if the host gives none, the recommended profile of the mode (R7, R600). -/
  reset : Option Profile
  /-- External RAM as the host supplies it. -/
  xram : Memory
  /-- Persisted save data, if there is any (R574). -/
  save : Option (List Byte)
  clock : Clock
deriving DecidableEq, Repr

/-- The image is long enough for its header and for the banks it declares, and its RAM size code has an entry (R573). -/
def imageFits (image : List Byte) : Bool :=
  decide (0x150 ≤ image.length) && decide (romBanksOf (readHeader image).romCode * romBankSize ≤ image.length) &&
    (ramBanksOf (readHeader image).ramCode).isSome

/-- The RAM banks of a cartridge, from its features and its RAM size code. A ROM-only cartridge has what the header declares
(R562); a bank controller has it only if its type has RAM (R572; notes/assumptions/20.md). -/
def ramBanksFor (f : Features) (ramCode : Byte) : Nat :=
  if f.kind = .romOnly ∨ f.ram then (ramBanksOf ramCode).getD 0 else 0

/-- The cartridge port at reset for an image, its features and what the host supplies (R572, R574, R604). Save data is overlaid
only where the type declares a battery (R574). -/
def cartOf (image : List Byte) (f : Features) (args : LaunchArgs) : Cart :=
  let h := readHeader image
  let xram := if f.battery then args.xram.overlay 0 (args.save.getD []) else args.xram
  Cart.reset f.kind (romBanksOf h.romCode) (ramBanksFor f h.ramCode) f.clock f.battery
    args.clock (Memory.ofBytes 0 image) xram

/-- The mode of a launch: the forced one, or that of the color flag (R571). -/
def LaunchArgs.mode (args : LaunchArgs) (h : Header) : ConsoleMode := args.force.getD (modeOf h.colorFlag)

/-- The reset profile of a launch: the host's, or the recommended one of the mode (R7, R600). -/
def LaunchArgs.profile (args : LaunchArgs) (mode : ConsoleMode) : Profile := args.reset.getD (Profile.recommended mode)

/-- The launch (70_reset_and_hazards.md R603): the length first, then the type code; a launch that faults sets no state. -/
def launch (image : List Byte) (args : LaunchArgs) : Except Fatal State :=
  let h := readHeader image
  if imageFits image then
    match featuresOf h.typeCode with
    | some f =>
      let mode := args.mode h
      .ok (State.resetOf (args.profile mode)
        { mode := mode, fill := args.fill, irqTail := args.irqTail
          sampleInterval := args.sampleInterval, sampleBlock := args.sampleBlock }
        (cartOf image f args))
    | none => .error (.unsupportedCartridge h.typeCode)
  else .error (.malformedRom image.length)

end Sys2Proof.Machine
end

