-- ==== Sys2Proof/Safety.lean ====
section
/-! DEFINITION. What a state of a sound run satisfies: the parts of the invariant that every step keeps, each from a rule of
the spec about the whole machine. -/

namespace Sys2Proof.Machine

/-- The memories of the bus are in their one canonical form. -/
structure Ram.Canonical (r : Ram) : Prop where
  wram : r.wram.wf
  vram : r.vram.wf
  oam : r.oam.wf
  hram : r.hram.wf
  wave : r.wave.wf
  bgpal : r.bgpal.wf
  obpal : r.obpal.wf

/-- Every memory of the machine is in its one canonical form. -/
structure State.MemoryCanonical (s : State) : Prop where
  ram : s.ram.Canonical
  rom : s.cart.rom.wf
  xram : s.cart.xram.wf

/-- The mode that a position in the frame has (62_boundary_units.md R551, R552): vertical-blank from scanline 144 on; on a
visible scanline OAM-scan, then pixel-transfer from dot 80, then horizontal-blank from dot 368. -/
def modeAt (ly dot : Nat) : PpuMode :=
  if ly ≥ visibleLines then .vblank
  else if dot < transferDot then .oamScan
  else if dot < hblankDot then .pixelTransfer
  else .hblank

/-- The pixel port is at a position of the frame, in the mode of that position (62_boundary_units.md R551). -/
structure Ppu.InFrame (p : Ppu) : Prop where
  dot : p.dot < dotsPerLine
  ly : p.ly < linesPerFrame
  mode : p.mode = modeAt p.ly p.dot

/-- What Mono mode fixes (20_memory.md R119; 10_state.md R40, R47, R49, R50, R58). -/
structure State.MonoFixed (s : State) : Prop where
  vbk : s.bus.vbk = 0
  svbk : s.bus.svbk = 0
  speed : s.cpu.speed = .normal
  armed : s.cpu.speedArmed = false
  hdma : s.hdma.active = false

/-- The ranges of the sound unit's counters (10_state.md R64, R66, R69) and, with the power off, silence
(61_timer_and_sound.md R488). -/
structure Sound.Bounded (cfg : Params) (u : Sound) : Prop where
  length1 : u.ch1.length ≤ 64
  length2 : u.ch2.length ≤ 64
  length3 : u.ch3.length ≤ 256
  length4 : u.ch4.length ≤ 64
  freq1 : u.ch1.freqTimer ≤ 8192
  freq2 : u.ch2.freqTimer ≤ 8192
  freq3 : u.ch3.freqTimer ≤ 4096
  freq4 : u.ch4.freqTimer ≤ 112 * 2 ^ 15
  counter : 0 < cfg.sampleInterval → u.out.counter < cfg.sampleInterval
  block : 0 < cfg.sampleBlock → u.out.block.length < cfg.sampleBlock
  silent : u.power = false →
    u.ch1.enabled = false ∧ u.ch2.enabled = false ∧ u.ch3.enabled = false ∧ u.ch4.enabled = false

/-- The sub-second accumulator of the clock stays below one second (62_boundary_units.md R565). -/
def Cart.ClockInSecond (c : Cart) : Prop := c.clock.subsec < ticksPerSecond

/-- What a reset profile must hold for the machine to start in its invariant: canonical memories, a pixel port at a position
of the frame, in Mono the values Mono fixes, sound counters in range (00_scope.md R7; 10_state.md R76). -/
structure Profile.Fits (p : Profile) (cfg : Params) : Prop where
  ram : p.ram.Canonical
  frame : p.ppu.InFrame
  mono : cfg.mode = .mono →
    p.bus.vbk = 0 ∧ p.bus.svbk = 0 ∧ p.cpu.speed = .normal ∧ p.cpu.speedArmed = false ∧ p.hdma.active = false
  sound : p.sound.Bounded cfg

/-- The invariant of the machine. -/
structure State.Inv (s : State) : Prop where
  memory : s.MemoryCanonical
  frame : s.ppu.InFrame
  mono : s.cfg.mode = .mono → s.MonoFixed
  sound : s.sound.Bounded s.cfg
  clock : s.cart.ClockInSecond

/-! ## The cells behind addresses -/

/-- The memory cell an address reaches under the present banking: which memory, and the key in it. None for a register, for
the unusable range, and for external RAM that is absent, disabled or replaced by a clock register (20_memory.md R81, R92 to
R102). -/
def State.place (s : State) (a : Word) : Option (Store × Nat) :=
  match regionOf a with
  | .rom => some (.rom, s.cart.romKey a)
  | .vram => some (.vram, s.bus.vramKey (a.toNat - 0x8000))
  | .xram =>
    match s.cart.clockReg, s.cart.ramBank with
    | none, some b => some (.xram, ramKey b a)
    | _, _ => none
  | .wram0 => some (.wram, s.bus.wramKey a)
  | .wramX => some (.wram, s.bus.wramKey a)
  | .echo => some (.wram, s.bus.wramKey (unecho a))
  | .oam => some (.oam, a.toNat - 0xFE00)
  | .unusable => none
  | .io => none
  | .hram => some (.hram, a.toNat - 0xFF80)
  | .ie => none

/-- An address at which a store does nothing but replace the byte of a cell. -/
def State.Plain (s : State) (a : Word) : Prop := ∃ c, s.place a = some c ∧ c.1 ≠ .rom

/-- The steps a run has made without stopping; a run that stops is not a successful end (60_exceptions.md R431). -/
def stepsFrom : Nat → State → Result
  | 0, s => .next s
  | n + 1, s =>
    match step s with
    | .next t => stepsFrom n t
    | .fault f => .fault f
    | .refused r => .refused r

/-- THE END OF A RUN, the model's own predicate (00_scope.md R22; notes/assumptions/22.md): the processor is Active, without a
fault, at the named address, between two instructions. -/
def State.AtEnd (finish : Word) (s : State) : Prop :=
  s.cpu.pc = finish ∧ s.cpu.status = .active ∧ s.cpu.fault = none

/-- The run from `s` ends at the address `finish` after `n` steps, and at no earlier step. A fatal fault stops a run and is no
end of it (00_scope.md R22; 60_exceptions.md R431). -/
def EndsAt (finish : Word) (n : Nat) (s : State) : Prop :=
  (∃ t, stepsFrom n s = .next t ∧ t.AtEnd finish) ∧ ∀ m t, m < n → stepsFrom m s = .next t → ¬ t.AtEnd finish

/-- A run of `n` steps is safe if it raises no fatal fault on the way and at its end. -/
def SafeRun (n : Nat) (s : State) : Prop := ∃ t, stepsFrom n s = .next t ∧ t.cpu.fault = none

end Sys2Proof.Machine
end

