-- ==== Sys2Proof/Certificates/Slice0/Obligations.lean ====
section
/-! DEFINITION. The statements for the provers. Helpers in the namespace `Sys2Proof.Claims` write a rule's arithmetic a second
time, in other terms than the model's. -/

namespace Sys2Proof.Claims

open Sys2Proof Sys2Proof.Machine

/-! ## Terms of the statements -/

/-- The result byte of an arithmetic or logic operation, by wrapping arithmetic (42_alu8.md R250 to R273). -/
def aluRes (op : AluOp) (a v : Byte) (cin : Bool) : Byte :=
  match op with
  | .add => a + v
  | .adc => a + v + (if cin then 1 else 0)
  | .sub => a - v
  | .sbc => a - v - (if cin then 1 else 0)
  | .and => a &&& v
  | .xor => a ^^^ v
  | .or => a ||| v
  | .cp => a - v

/-- The flags of the operation: a carry is a sum too big for its width, a borrow a minuend too small (R250 to R273, R290,
R291). -/
def aluFlags (op : AluOp) (a v : Byte) (cin : Bool) : Flags :=
  let z := decide (aluRes op a v cin = 0)
  let x := a.toNat
  let y := v.toNat
  let i := if cin then 1 else 0
  match op with
  | .add => { z, n := false, h := decide (x % 16 + y % 16 ≥ 16), c := decide (x + y ≥ 256) }
  | .adc => { z, n := false, h := decide (x % 16 + y % 16 + i ≥ 16), c := decide (x + y + i ≥ 256) }
  | .sub => { z, n := true, h := decide (x % 16 < y % 16), c := decide (x < y) }
  | .sbc => { z, n := true, h := decide (x % 16 < y % 16 + i), c := decide (x < y + i) }
  | .and => { z, n := false, h := true, c := false }
  | .xor => { z, n := false, h := false, c := false }
  | .or => { z, n := false, h := false, c := false }
  | .cp => { z, n := true, h := decide (x % 16 < y % 16), c := decide (x < y) }

/-- The state after an operation on A with the byte `v`; CP leaves A. -/
def aluDone (op : AluOp) (v : Byte) (s : State) : State :=
  { s with
    cpu.a := if op = .cp then s.cpu.a else aluRes op s.cpu.a v s.cpu.flags.c
    cpu.flags := aluFlags op s.cpu.a v s.cpu.flags.c }

/-- A rotate or shift by the bit-vector operations: the result and the bit that falls out (44_rotate_shift_bit.md R340 to
R347). -/
def rotRes (op : RotOp) (v : Byte) (cin : Bool) : Byte × Bool :=
  match op with
  | .rlc => (v.rotateLeft 1, v.msb)
  | .rrc => (v.rotateRight 1, v.getLsbD 0)
  | .rl => ((v <<< 1) ||| (if cin then 0x01 else 0x00), v.msb)
  | .rr => ((v >>> 1) ||| (if cin then 0x80 else 0x00), v.getLsbD 0)
  | .sla => (v <<< 1, v.msb)
  | .sra => (v.sshiftRight 1, v.getLsbD 0)
  | .swap => (v.rotateLeft 4, false)
  | .srl => (v >>> 1, v.getLsbD 0)

/-- The flags of an extended rotate or shift (R314 to R329). -/
def rotF (r : Byte × Bool) : Flags := { z := decide (r.1 = 0), n := false, h := false, c := r.2 }

/-- A two-digit decimal number as a byte with one digit in each half. -/
def bcd (n : Nat) : Byte := BitVec.ofNat 8 (n / 10 * 16 + n % 10)

/-- A byte pushed by an access: sp moves down, a machine cycle passes, the byte is written (00_scope.md R13, R17). -/
def pushed (v : Byte) (s : State) : State :=
  busWrite (s.cpu.sp - 1) v (cycle { s with cpu.sp := s.cpu.sp - 1 })

/-- A word pushed, high byte first (R17). -/
def pushed16 (v : Word) (s : State) : State := pushed (lo v) (pushed (hi v) s)

/-- The word that two pops read and the state they leave: the low byte at sp, the high byte at sp + 1 (R17). -/
def popped16 (s : State) : Word × State :=
  let u := cycle s
  let t := cycle { u with cpu.sp := s.cpu.sp + 1 }
  (word (busRead t (s.cpu.sp + 1)) (busRead u s.cpu.sp), { t with cpu.sp := s.cpu.sp + 2 })

/-- The undefined opcodes and their instructions (46_system.md R376). -/
def illegals : List (Byte × Instr) :=
  [ (0xD3, .illegalD3), (0xDB, .illegalDB), (0xDD, .illegalDD), (0xE3, .illegalE3), (0xE4, .illegalE4),
    (0xEB, .illegalEB), (0xEC, .illegalEC), (0xED, .illegalED), (0xF4, .illegalF4), (0xFC, .illegalFC),
    (0xFD, .illegalFD) ]

/-- The instruction stores to the byte at HL: `LD (HL),r`, `LD (HL),n`, the post-increment and post-decrement stores, and the
read-modify-write forms with operand (HL). -/
def storesAtHL (i : Instr) : Prop :=
  (∃ r, i = ldRow .atHL (.reg r)) ∨ (∃ n, i = .ldMHLn n) ∨ i = .ldMHLIncA ∨ i = .ldMHLDecA ∨ i = .incMHL ∨ i = .decMHL ∨
    (∃ op, i = rotRow op .atHL) ∨ (∃ k, i = resRow k .atHL) ∨ (∃ k, i = setRow k .atHL) ∨
    (∃ op2, i = .prefixCB op2 ∧ op2.toNat % 8 = 6 ∧ op2.toNat / 64 ≠ 1)

/-- The instruction pushes two bytes in this state. -/
def pushes (i : Instr) (s : State) : Prop :=
  (∃ q, i = pushRow q) ∨ (∃ k, i = rstRow k) ∨ (∃ nn, i = .callnn nn) ∨
    (∃ cc nn, i = callRow cc nn ∧ condHolds cc s.cpu.flags = true)

/-- The addresses an instruction stores to, each computed as its rule computes it. -/
def StoresTo (i : Instr) (s : State) (a : Word) : Prop :=
  (storesAtHL i ∧ a = s.cpu.hl) ∨
  (i = .ldMBCA ∧ a = s.cpu.bc) ∨
  (i = .ldMDEA ∧ a = s.cpu.de) ∨
  (i = .ldMnnA a) ∨
  (i = .ldhMCA ∧ a = highPage s.cpu.c) ∨
  (∃ n, i = .ldhMnA n ∧ a = highPage n) ∨
  (∃ nn, i = .ldMnnSP nn ∧ (a = nn ∨ a = nn + 1)) ∨
  (pushes i s ∧ (a = s.cpu.sp - 1 ∨ a = s.cpu.sp - 2))

/-- First and last address of a region (20_memory.md R81). -/
def regionRange : Region → Nat × Nat
  | .rom => (0x0000, 0x7FFF)
  | .vram => (0x8000, 0x9FFF)
  | .xram => (0xA000, 0xBFFF)
  | .wram0 => (0xC000, 0xCFFF)
  | .wramX => (0xD000, 0xDFFF)
  | .echo => (0xE000, 0xFDFF)
  | .oam => (0xFE00, 0xFE9F)
  | .unusable => (0xFEA0, 0xFEFF)
  | .io => (0xFF00, 0xFF7F)
  | .hram => (0xFF80, 0xFFFE)
  | .ie => (0xFFFF, 0xFFFF)

/-- The unmapped offsets of the I/O window (20_memory.md R118). -/
def unmapped (off : Nat) : Prop :=
  off = 0x03 ∨ (0x08 ≤ off ∧ off ≤ 0x0E) ∨ off = 0x15 ∨ off = 0x1F ∨ (0x27 ≤ off ∧ off ≤ 0x2F) ∨ off = 0x4C ∨ off = 0x4E ∨
    off = 0x50 ∨ (0x56 ≤ off ∧ off ≤ 0x67) ∨ (0x6C ≤ off ∧ off ≤ 0x6F) ∨ (0x71 ≤ off ∧ off ≤ 0x7F)

/-- The offsets marked C (R110). -/
def colorOnly (off : Nat) : Prop :=
  off = 0x4D ∨ off = 0x4F ∨ (0x51 ≤ off ∧ off ≤ 0x55) ∨ (0x68 ≤ off ∧ off ≤ 0x6B) ∨ off = 0x70

/-- The I/O address of an offset. -/
def ioAddr (off : Nat) : Word := BitVec.ofNat 16 (0xFF00 + off)

/-- The selected divider bit falls when four ticks are added (61_timer_and_sound.md R462): the bits below it and the bit itself
carry out. -/
def fallsInFour (b : Nat) (d : Word) : Prop := d.toNat % 2 ^ (b + 1) + 4 ≥ 2 ^ (b + 1)

/-- The divider bit of each select code (R462). -/
def selectedBit (code : Nat) : Nat := if code = 0 then 9 else if code = 1 then 3 else if code = 2 then 5 else 7

/-- The position in a frame, in dots (62_boundary_units.md R555). -/
def framePos (p : Ppu) : Nat := p.ly * 456 + p.dot

/-- The scanline machine over machine cycles at Normal speed, four ticks each (R550). -/
def ppuCycles : Nat → Ppu → Ppu
  | 0, p => p
  | n + 1, p => ppuCycles n (p.advance 4).1

/-- One length clock (61_timer_and_sound.md R501): the counter after it and the enable flag after it. -/
def lengthAfter (nrk4 : Byte) (length : Nat) (enabled : Bool) : Nat × Bool :=
  if nrk4.getLsbD 6 = true ∧ 0 < length then (length - 1, enabled && decide (length ≠ 1)) else (length, enabled)

/-- One envelope clock (R504): volume and timer before and after it. -/
def EnvelopeMoves (env : Envelope) (volume timer volume' timer' : BitVec 4) : Prop :=
  (env.period = 0 → volume' = volume ∧ timer' = timer) ∧
  (env.period ≠ 0 → 2 ≤ timer.toNat → volume' = volume ∧ timer'.toNat = timer.toNat - 1) ∧
  (env.period ≠ 0 → timer.toNat ≤ 1 → timer'.toNat = env.period.toNat ∧
    volume'.toNat = if env.up then min 15 (volume.toNat + 1) else volume.toNat - 1)

/-- A sweep calculation as a number (R503), from the shadow and NR10. -/
def swept (shadow : Nat) (nr10 : Byte) : Nat :=
  if nr10.getLsbD 3 then shadow - shadow / 2 ^ (nr10.toNat % 8) else shadow + shadow / 2 ^ (nr10.toNat % 8)

/-- A period field of an envelope or a sweep, where 0 counts as 8 (R490). -/
def periodOr8 (n : Nat) : Nat := if n = 0 then 8 else n

/-- One sweep clock (R502) on the sweep `w`, the registers `r` and the enable flag `on` of channel 1 gives `w'`, `r'`, `on'`: the
timer counts down; when it reaches 0 it reloads, and with the sweep enabled and a period other than 0 the new frequency is
computed; above 2047 it disables the channel; else, with a shift other than 0, it is stored and checked once more. -/
def SweepMoves (w : Sweep) (r : SoundRegs) (on : Bool) (w' : Sweep) (r' : SoundRegs) (on' : Bool) : Prop :=
  let period := r.nr10.toNat / 16 % 8
  let shift := r.nr10.toNat % 8
  let new := swept w.shadow.toNat r.nr10
  let acts := w.enabled = true ∧ period ≠ 0
  w'.enabled = w.enabled ∧
  (2 ≤ w.timer.toNat → w'.timer.toNat = w.timer.toNat - 1 ∧ w'.shadow = w.shadow ∧ r' = r ∧ on' = on) ∧
  (w.timer.toNat ≤ 1 →
    w'.timer.toNat = periodOr8 period ∧
    (¬ acts → w'.shadow = w.shadow ∧ r' = r ∧ on' = on) ∧
    (acts → new > 2047 → w'.shadow = w.shadow ∧ r' = r ∧ on' = false) ∧
    (acts → new ≤ 2047 → shift = 0 → w'.shadow = w.shadow ∧ r' = r ∧ on' = on) ∧
    (acts → new ≤ 2047 → shift ≠ 0 →
      w'.shadow.toNat = new ∧ r' = { r with nr13 := r'.nr13, nr14 := r'.nr14 } ∧ r'.nr13.toNat = new % 256 ∧
      r'.nr14.toNat = r.nr14.toNat / 8 * 8 + new / 256 ∧ on' = (on && decide (swept new r.nr10 ≤ 2047))))

/-- The clock's time in seconds. -/
def clockSeconds (k : Clock) : Nat :=
  ((k.day.toNat * 24 + k.hours.toNat) * 60 + k.minutes.toNat) * 60 + k.seconds.toNat

/-- A clock in range (62_boundary_units.md R565). -/
def clockInRange (k : Clock) : Prop := k.seconds.toNat < 60 ∧ k.minutes.toNat < 60 ∧ k.hours.toNat < 24

end Sys2Proof.Claims

open Sys2Proof Sys2Proof.Machine Sys2Proof.Claims

/-! ## Encoding -/

/-- Words written out from 30_encoding.md R171 to R180 decode to their instructions. -/
def Obligations.DecodesWordsOfTheSpec : Prop :=
  decode [0x78] = .ok (.ldAB, []) ∧
  decode [0x3E, 0x7F] = .ok (.ldAn 0x7F, []) ∧
  decode [0x21, 0x00, 0xC0] = .ok (.ldHLnn 0xC000, []) ∧
  decode [0x3C] = .ok (.incA, []) ∧
  decode [0x86] = .ok (.addAMHL, []) ∧
  decode [0x39] = .ok (.addHLSP, []) ∧
  decode [0xCB, 0x37] = .ok (.swapA, []) ∧
  decode [0xCB, 0x7E] = .ok (.bit7MHL, []) ∧
  decode [0xDC, 0x34, 0x12] = .ok (.callCnn 0x1234, []) ∧
  decode [0x10, 0x00] = .ok (.stop, [0x00]) ∧
  decode [0xDD] = .ok (.illegalDD, [])

/-- Encoding a well-formed instruction and decoding it gives it back, whatever follows. -/
def Obligations.DecodeOfEncodeIsTheInstruction : Prop :=
  ∀ (i : Instr) (rest : List Byte), i.wellFormed = true → decode (encode i ++ rest) = .ok (i, rest)

/-- Each list of bytes has one meaning: what the decoder reads off the head of a list is what the encoder writes. -/
def Obligations.EncodeOfDecodeIsTheBytes : Prop :=
  ∀ (bs rest : List Byte) (i : Instr), decode bs = .ok (i, rest) → i.wellFormed = true ∧ encode i ++ rest = bs

/-- The prefix executes the row of the extended table that its byte selects (46_system.md R375). -/
def Obligations.PrefixExecutesTheExtendedRow : Prop :=
  ∀ (op2 : Byte) (s : State), exec (.prefixCB op2) s = exec (extendedRow op2) s ∧ ∃ t, exec (.prefixCB op2) s = .next t

/-! ## The step -/

/-- A step runs the decoded instruction: if the processor is Active and the bytes that the fetch reads at pc, after the
joypad evaluation and the interrupt check, are those of `i`, the step is `exec i` in the state after the fetch. -/
def Obligations.StepRunsTheDecodedInstruction : Prop :=
  ∀ (s : State) (i : Instr),
    s.cpu.fault = none → s.cpu.status = .active →
    let ready := interruptCheck (joypadEvaluate s)
    let first := fetch8 ready
    let others := fetchBytes (primaryRow first.1).more first.2
    decode (first.1 :: others.1) = .ok (i, []) → step s = exec i others.2

/-- The fetch always finds an instruction; it moves pc past the instruction's bytes, one machine cycle for each, and changes
no other register. -/
def Obligations.FetchPassesTheInstruction : Prop :=
  ∀ s : State, ∃ i t,
    fetchInstr s = (.ok i, t) ∧ i.wellFormed = true ∧
    t.cpu = { s.cpu with pc := s.cpu.pc + BitVec.ofNat 16 (encode i).length } ∧
    t.cycles = s.cycles + (encode i).length

/-- Every step from a state without a fault has a next state; from a faulted state there is no step, and a run from there never
reaches its end (60_exceptions.md R431, R432; 00_scope.md R22). What the end of a run is, is the model's choice
(notes/assumptions/22.md). -/
def Obligations.StepStopsOnlyAtAFault : Prop :=
  ∀ s : State,
    (s.cpu.fault = none → ∃ t, step s = .next t) ∧
    (∀ f, s.cpu.fault = some f → step s = .fault (.fatal f) ∧ ∀ finish n, ¬ EndsAt finish n s)

/-- The steps that fetch nothing: Paused changes nothing at all; Stopped with no line asserted only evaluates the joypad;
Halted evaluates the joypad, runs one machine cycle, and goes on only when a line is pending and enabled, whatever the
master enable (60_exceptions.md R420 to R427). -/
def Obligations.WaitingSteps : Prop :=
  ∀ s : State, s.cpu.fault = none →
    (s.cpu.status = .paused → step s = .next s) ∧
    (s.cpu.status = .stopped →
      let u := joypadEvaluate s
      (s.joypad.lines = 0b1111 → step s = .next u) ∧
      (s.joypad.lines ≠ 0b1111 → step s = run { u with cpu.status := .active })) ∧
    (s.cpu.status = .halted →
      let u := cycle (joypadEvaluate s)
      (u.irq.ifr &&& u.irq.ie.extractLsb' 0 5 = 0 → step s = .next u) ∧
      (u.irq.ifr &&& u.irq.ie.extractLsb' 0 5 ≠ 0 → step s = run { u with cpu.status := .active }))

/-- The joypad: a line is low exactly when a pressed button of a selected group drives it, and an evaluation requests line 4
exactly when a line goes from 1 to 0 (10_state.md R44; 60_exceptions.md R440). -/
def Obligations.JoypadRequestsOnAFallingLine : Prop :=
  ∀ s : State,
    (∀ k, k < 4 → (s.joypad.lines.getLsbD k = false ↔
      (s.joypad.sel.getLsbD 0 = false ∧ s.joypad.joy.getLsbD k = true) ∨
      (s.joypad.sel.getLsbD 1 = false ∧ s.joypad.joy.getLsbD (4 + k) = true))) ∧
    ((∃ k, k < 4 ∧ s.joypad.prev.getLsbD k = true ∧ s.joypad.lines.getLsbD k = false) →
      joypadEvaluate s = { s with joypad.prev := s.joypad.lines, irq.ifr := s.irq.ifr ||| 0b10000 }) ∧
    ((∀ k, k < 4 → s.joypad.prev.getLsbD k = true → s.joypad.lines.getLsbD k = true) →
      joypadEvaluate s = { s with joypad.prev := s.joypad.lines })

/-! ## Interrupts -/

/-- The interrupt check: with no deferred enable (`NopHaltAndTheInterruptEnable` says that case) and the master enable set, the
lowest-numbered pending and enabled line is dispatched, and no other; otherwise nothing changes (60_exceptions.md R410). -/
def Obligations.InterruptCheckServesTheLowestLine : Prop :=
  ∀ s : State,
    (s.cpu.eiDelay = false → s.cpu.ime = false → interruptCheck s = s) ∧
    (s.cpu.eiDelay = false → s.cpu.ime = true →
      (s.irq.ifr &&& s.irq.ie.extractLsb' 0 5 = 0 → interruptCheck s = s) ∧
      (∀ l : Line,
        s.irq.ifr.getLsbD l.index = true → s.irq.ie.getLsbD l.index = true →
        (∀ k, k < l.index → ¬ (s.irq.ifr.getLsbD k = true ∧ s.irq.ie.getLsbD k = true)) →
        interruptCheck s = dispatch l s))

/-- What a dispatch does to the processor and to IF: the master enable is cleared, sp ends 2 lower, pc is the vector, or
0x0000 in the enable-register collision, when the high byte of pc lands on IE and masks the line; the pending bit is cleared
before the last cycle, and stays set in the collision. Four machine cycles pass, or five (60_exceptions.md R405 to R409). -/
def Obligations.DispatchGoesToTheVector : Prop :=
  ∀ (s : State) (l : Line),
    let t := dispatch l s
    let collides := s.cpu.sp = 0 ∧ (hi s.cpu.pc).getLsbD l.index = false
    { t.cpu with speedArmed := s.cpu.speedArmed } =
      { s.cpu with
        ime := false
        sp := s.cpu.sp - 2
        pc := if s.cpu.sp = 0 ∧ (hi s.cpu.pc).getLsbD l.index = false then 0x0000
              else BitVec.ofNat 16 (0x0040 + 8 * l.index) } ∧
    t.cycles = s.cycles + (if s.cfg.irqTail then 5 else 4) ∧
    (collides → s.irq.ifr.getLsbD l.index = true → t.irq.ifr.getLsbD l.index = true) ∧
    (¬ collides → ∃ u, u.irq.ifr.getLsbD l.index = false ∧ t = (if s.cfg.irqTail then cycle u else u))

/-- A dispatch on a stack in plain memory, and RETI after it: every register is what it was, pc and sp among them, and the
master enable is set (60_exceptions.md R412; 45_control_transfer.md R359). -/
def Obligations.RetiResumesAfterADispatch : Prop :=
  ∀ (s : State) (l : Line),
    s.Plain (s.cpu.sp - 1) → s.Plain (s.cpu.sp - 2) → s.hdma.active = false →
    ∃ t, exec .reti (dispatch l s) = .next t ∧ t.cpu = { s.cpu with ime := true }

/-! ## Loads -/

/-- The loads from memory: `LD r,(HL)`; `LD A,(BC)`, `(DE)`, `(nn)`; `LDH A,(C)`, `(n)` (R202, R205, R206, R209, R211, R213): one
machine cycle, then the byte. -/
def Obligations.LoadsFromMemory : Prop :=
  ∀ s : State,
    let loaded (d : Reg8) (a : Word) : Result := .next { cycle s with cpu := s.cpu.set d (busRead (cycle s) a) }
    (∀ d, exec (ldRow (.reg d) .atHL) s = loaded d (word s.cpu.h s.cpu.l)) ∧
    exec .ldAMBC s = loaded .a (word s.cpu.b s.cpu.c) ∧
    exec .ldAMDE s = loaded .a (word s.cpu.d s.cpu.e) ∧
    (∀ nn, exec (.ldAMnn nn) s = loaded .a nn) ∧
    exec .ldhAMC s = loaded .a (0xFF00 + s.cpu.c.setWidth 16) ∧
    (∀ n, exec (.ldhAMn n) s = loaded .a (0xFF00 + n.setWidth 16))

/-- The stores of one byte: `LD (HL),r`; `LD (HL),n`; `LD (BC)`, `(DE)`, `(nn),A`; `LDH (C)`, `(n),A` (R203, R204, R207, R208,
R210, R212, R214): one machine cycle, then the bus write. -/
def Obligations.StoresToMemory : Prop :=
  ∀ s : State,
    let stored (a : Word) (v : Byte) : Result := .next (busWrite a v (cycle s))
    (∀ r, exec (ldRow .atHL (.reg r)) s = stored (word s.cpu.h s.cpu.l) (s.cpu.get r)) ∧
    (∀ n, exec (.ldMHLn n) s = stored (word s.cpu.h s.cpu.l) n) ∧
    exec .ldMBCA s = stored (word s.cpu.b s.cpu.c) s.cpu.a ∧
    exec .ldMDEA s = stored (word s.cpu.d s.cpu.e) s.cpu.a ∧
    (∀ nn, exec (.ldMnnA nn) s = stored nn s.cpu.a) ∧
    exec .ldhMCA s = stored (0xFF00 + s.cpu.c.setWidth 16) s.cpu.a ∧
    (∀ n, exec (.ldhMnA n) s = stored (0xFF00 + n.setWidth 16) s.cpu.a)

/-- The four loads and stores that step HL afterwards (R215 to R218). -/
def Obligations.LoadsAndStoresThatStepHL : Prop :=
  ∀ s : State,
    let hl := word s.cpu.h s.cpu.l
    let loaded (x : Word) : Result :=
      .next { cycle s with cpu := { s.cpu with a := busRead (cycle s) hl, h := hi x, l := lo x } }
    let t := busWrite hl s.cpu.a (cycle s)
    let stored (x : Word) : Result := .next { t with cpu := { t.cpu with h := hi x, l := lo x } }
    exec .ldAMHLInc s = loaded (hl + 1) ∧ exec .ldAMHLDec s = loaded (hl - 1) ∧
    exec .ldMHLIncA s = stored (hl + 1) ∧ exec .ldMHLDecA s = stored (hl - 1)

/-- `LD r,r'`; `LD r,n`; `LD rr,nn`: the register or pair, and nothing else; `LD SP,HL`; `LD (nn),SP`, low byte first
(40_load8.md R200, R201; 41_load16_stack.md R230 to R232). -/
def Obligations.LoadsOfRegistersAndPairs : Prop :=
  ∀ s : State,
    (∀ d r, exec (ldRow (.reg d) (.reg r)) s = .next { s with cpu := s.cpu.set d (s.cpu.get r) }) ∧
    (∀ d n, exec (ldImmRow (.reg d) n) s = .next { s with cpu := s.cpu.set d n }) ∧
    (∀ q nn, exec (ldPairRow q nn) s = .next { s with cpu := s.cpu.setPair q nn }) ∧
    exec .ldSPHL s = .next (cycle { s with cpu.sp := word s.cpu.h s.cpu.l }) ∧
    (∀ nn, exec (.ldMnnSP nn) s =
      .next (busWrite (nn + 1) (hi s.cpu.sp) (cycle (busWrite nn (lo s.cpu.sp) (cycle s)))))

/-- `LD HL,SP+e` and `ADD SP,e`: the sum with the sign-extended byte, wrapping; carries out of bits 3 and 7 of the unsigned
addition; Z and N cleared (41_load16_stack.md R236; 43_alu16.md R303). -/
def Obligations.StackPointerPlusOffset : Prop :=
  ∀ (e : Byte) (s : State),
    let sum : Word := BitVec.ofInt 16 ((s.cpu.sp.toNat : Int) + e.toInt)
    let f : Flags := {
      z := false, n := false
      h := decide (s.cpu.sp.toNat % 16 + e.toNat % 16 ≥ 16)
      c := decide (s.cpu.sp.toNat % 256 + e.toNat ≥ 256) }
    exec (.ldHLSPe e) s = .next { cycle s with cpu := { s.cpu with h := hi sum, l := lo sum, flags := f } } ∧
    exec (.addSPe e) s = .next { cycle (cycle s) with cpu := { s.cpu with sp := sum, flags := f } }

/-- `PUSH` and `POP`: the accesses in order, and the pair; F is pushed as Z N H C 0000 and POP AF drops the low four bits
(R233 to R235). -/
def Obligations.PushAndPop : Prop :=
  ∀ s : State,
    let f := s.cpu.flags
    let fByte : Byte := BitVec.ofNat 8 (128 * f.z.toNat + 64 * f.n.toNat + 32 * f.h.toNat + 16 * f.c.toNat)
    exec .pushBC s = .next (pushed16 (word s.cpu.b s.cpu.c) (cycle s)) ∧
    exec .pushDE s = .next (pushed16 (word s.cpu.d s.cpu.e) (cycle s)) ∧
    exec .pushHL s = .next (pushed16 (word s.cpu.h s.cpu.l) (cycle s)) ∧
    exec .pushAF s = .next (pushed16 (word s.cpu.a fByte) (cycle s)) ∧
    (let r := popped16 s
     exec .popBC s = .next { r.2 with cpu := { r.2.cpu with b := hi r.1, c := lo r.1 } } ∧
     exec .popDE s = .next { r.2 with cpu := { r.2.cpu with d := hi r.1, e := lo r.1 } } ∧
     exec .popHL s = .next { r.2 with cpu := { r.2.cpu with h := hi r.1, l := lo r.1 } } ∧
     exec .popAF s = .next { r.2 with cpu := { r.2.cpu with
       a := hi r.1
       flags := { z := r.1.getLsbD 7, n := r.1.getLsbD 6, h := r.1.getLsbD 5, c := r.1.getLsbD 4 } } })

/-- A pair pushed to a stack in plain memory and popped into any pair: that pair holds the value, sp is back, and no other
register has changed. -/
def Obligations.PopReturnsWhatPushStored : Prop :=
  ∀ (q q' : StackPair) (s : State),
    s.Plain (s.cpu.sp - 1) → s.Plain (s.cpu.sp - 2) → s.hdma.active = false →
    ∃ t u, exec (pushRow q) s = .next t ∧ exec (popRow q') t = .next u ∧ u.cpu = s.cpu.setStack q' (s.cpu.getStack q)

/-! ## Arithmetic and logic -/

/-- The eight two-operand operations in their three forms (42_alu8.md R250 to R273, R292). -/
def Obligations.ArithmeticAndLogic : Prop :=
  ∀ (op : AluOp) (s : State),
    (∀ r, exec (aluRow op (.reg r)) s = .next (aluDone op (s.cpu.get r) s)) ∧
    (∀ n, exec (aluImmRow op n) s = .next (aluDone op n s)) ∧
    exec (aluRow op .atHL) s = .next (aluDone op (busRead (cycle s) (word s.cpu.h s.cpu.l)) (cycle s))

/-- `INC` and `DEC` on a register and on (HL): C is unchanged, H is the carry or borrow between the halves (R274 to R277). -/
def Obligations.IncrementAndDecrement : Prop :=
  ∀ s : State,
    let up (v : Byte) : Flags := { z := decide (v = 0xFF), n := false, h := decide (v.toNat % 16 = 15), c := s.cpu.flags.c }
    let down (v : Byte) : Flags := { z := decide (v = 0x01), n := true, h := decide (v.toNat % 16 = 0), c := s.cpu.flags.c }
    let hl := word s.cpu.h s.cpu.l
    let v := busRead (cycle s) hl
    let afterWrite (w : Byte) (f : Flags) : State :=
      let t := busWrite hl w (cycle (cycle s))
      { t with cpu := { t.cpu with flags := f } }
    (∀ r, exec (incRow (.reg r)) s = .next { s with cpu := { s.cpu.set r (s.cpu.get r + 1) with flags := up (s.cpu.get r) } }) ∧
    (∀ r, exec (decRow (.reg r)) s =
      .next { s with cpu := { s.cpu.set r (s.cpu.get r - 1) with flags := down (s.cpu.get r) } }) ∧
    exec .incMHL s = .next (afterWrite (v + 1) (up v)) ∧
    exec .decMHL s = .next (afterWrite (v - 1) (down v))

/-- `DAA` after the addition or the subtraction of two decimal numbers of two digits gives the decimal result and carry; it
changes nothing but A and the flags, clears H and keeps N (R278). -/
def Obligations.DecimalAdjust : Prop :=
  (∀ s : State, ∃ t, exec .daa s = .next t ∧
    t = { s with cpu := { s.cpu with a := t.cpu.a, flags := t.cpu.flags } } ∧
    t.cpu.flags.z = decide (t.cpu.a = 0) ∧ t.cpu.flags.n = s.cpu.flags.n ∧ t.cpu.flags.h = false ∧
    (s.cpu.flags.n = false →
      t.cpu.flags.c = decide (s.cpu.flags.c = true ∨ s.cpu.a.toNat > 0x99) ∧
      t.cpu.a.toNat = (s.cpu.a.toNat + (if s.cpu.flags.c = true ∨ s.cpu.a.toNat > 0x99 then 0x60 else 0) +
        (if s.cpu.flags.h = true ∨ s.cpu.a.toNat % 16 > 9 then 6 else 0)) % 256) ∧
    (s.cpu.flags.n = true →
      t.cpu.flags.c = s.cpu.flags.c ∧
      (t.cpu.a.toNat + (if s.cpu.flags.c = true then 0x60 else 0) + (if s.cpu.flags.h = true then 6 else 0)) % 256 =
        s.cpu.a.toNat)) ∧
  (∀ (x y : Nat) (s : State), x < 100 → y < 100 → s.cpu.a = bcd x → s.cpu.b = bcd y →
    (∃ t u, exec .addAB s = .next t ∧ exec .daa t = .next u ∧
      u.cpu.a = bcd ((x + y) % 100) ∧ u.cpu.flags.c = decide (x + y ≥ 100)) ∧
    (∃ t u, exec .subB s = .next t ∧ exec .daa t = .next u ∧
      u.cpu.a = bcd ((x + 100 - y) % 100) ∧ u.cpu.flags.c = decide (x < y)))

/-- `CPL`, `SCF`, `CCF` (R279 to R281). -/
def Obligations.ComplementAndCarryFlag : Prop :=
  ∀ s : State,
    let f := s.cpu.flags
    exec .cpl s = .next { s with cpu.a := ~~~s.cpu.a, cpu.flags := { f with n := true, h := true } } ∧
    exec .scf s = .next { s with cpu.flags := { f with n := false, h := false, c := true } } ∧
    exec .ccf s = .next { s with cpu.flags := { f with n := false, h := false, c := !f.c } }

/-- `ADD HL,rr`: the sum modulo 2^16, carries out of bits 11 and 15, Z unchanged, one internal cycle (43_alu16.md R300). -/
def Obligations.AddToHL : Prop :=
  ∀ (q : Pair) (s : State),
    let x := word s.cpu.h s.cpu.l
    let y := s.cpu.getPair q
    let sum : Word := BitVec.ofNat 16 (x.toNat + y.toNat)
    exec (addHLRow q) s = .next { cycle s with cpu := { s.cpu with
      h := hi sum, l := lo sum
      flags := {
        z := s.cpu.flags.z, n := false
        h := decide (x.toNat % 4096 + y.toNat % 4096 ≥ 4096)
        c := decide (x.toNat + y.toNat ≥ 65536) } } }

/-- `INC rr` and `DEC rr`, done on the two halves, are plus and minus one modulo 2^16; no flag; one internal cycle
(R301, R302). -/
def Obligations.IncrementAndDecrementPairs : Prop :=
  ∀ (q : Pair) (s : State),
    exec (incPairRow q) s = .next (cycle { s with cpu := s.cpu.setPair q (s.cpu.getPair q + 1) }) ∧
    exec (decPairRow q) s = .next (cycle { s with cpu := s.cpu.setPair q (s.cpu.getPair q - 1) })

/-! ## Rotates, shifts, bits -/

/-- The accumulator rotates, Z always cleared; the extended rotates and shifts on a register and on (HL)
(44_rotate_shift_bit.md R310 to R329, R340 to R347). -/
def Obligations.RotatesAndShifts : Prop :=
  ∀ s : State,
    let c := s.cpu.flags.c
    let acc (op : RotOp) : Result :=
      let r := rotRes op s.cpu.a c
      .next { s with cpu.a := r.1, cpu.flags := { z := false, n := false, h := false, c := r.2 } }
    exec .rlca s = acc .rlc ∧ exec .rrca s = acc .rrc ∧ exec .rla s = acc .rl ∧ exec .rra s = acc .rr ∧
    ∀ op : RotOp,
      (∀ r, exec (rotRow op (.reg r)) s =
        let x := rotRes op (s.cpu.get r) c
        .next { s with cpu := { s.cpu.set r x.1 with flags := rotF x } }) ∧
      exec (rotRow op .atHL) s =
        let hl := word s.cpu.h s.cpu.l
        let x := rotRes op (busRead (cycle s) hl) c
        let t := busWrite hl x.1 (cycle (cycle s))
        .next { t with cpu := { t.cpu with flags := rotF x } }

/-- `BIT`, `RES`, `SET` on a register and on (HL): RES and SET change the one bit and no flag, BIT reads it (R330 to R335). -/
def Obligations.BitOperations : Prop :=
  ∀ (k : Oct) (s : State),
    let hl := word s.cpu.h s.cpu.l
    let m := busRead (cycle s) hl
    let tested (v : Byte) : Flags := { z := !v.getLsbD k.toNat, n := false, h := true, c := s.cpu.flags.c }
    (∀ r, exec (bitRow k (.reg r)) s = .next { s with cpu := { s.cpu with flags := tested (s.cpu.get r) } }) ∧
    exec (bitRow k .atHL) s = .next { cycle s with cpu := { s.cpu with flags := tested m } } ∧
    (∀ r, ∃ w, exec (resRow k (.reg r)) s = .next { s with cpu := s.cpu.set r w } ∧
      ∀ j, j < 8 → w.getLsbD j = ((s.cpu.get r).getLsbD j && decide (j ≠ k.toNat))) ∧
    (∃ w, exec (resRow k .atHL) s = .next (busWrite hl w (cycle (cycle s))) ∧
      ∀ j, j < 8 → w.getLsbD j = (m.getLsbD j && decide (j ≠ k.toNat))) ∧
    (∀ r, ∃ w, exec (setRow k (.reg r)) s = .next { s with cpu := s.cpu.set r w } ∧
      ∀ j, j < 8 → w.getLsbD j = ((s.cpu.get r).getLsbD j || decide (j = k.toNat))) ∧
    (∃ w, exec (setRow k .atHL) s = .next (busWrite hl w (cycle (cycle s))) ∧
      ∀ j, j < 8 → w.getLsbD j = (m.getLsbD j || decide (j = k.toNat)))

/-! ## Control transfer -/

/-- The jumps (45_control_transfer.md R350 to R354, R361): a jump taken spends one internal cycle, but for JP HL; one not taken
leaves the state after the fetch; a relative jump adds the signed byte to the address after the instruction. -/
def Obligations.Jumps : Prop :=
  ∀ s : State,
    let go (a : Word) : Result := .next { cycle s with cpu.pc := a }
    let rel (e : Byte) : Word := BitVec.ofInt 16 ((s.cpu.pc.toNat : Int) + e.toInt)
    exec .jpHL s = .next { s with cpu.pc := word s.cpu.h s.cpu.l } ∧
    (∀ nn, exec (.jpnn nn) s = go nn) ∧
    (∀ e, exec (.jre e) s = go (rel e)) ∧
    (∀ nn, exec (jpRow .nz nn) s = if s.cpu.flags.z then .next s else go nn) ∧
    (∀ nn, exec (jpRow .z nn) s = if s.cpu.flags.z then go nn else .next s) ∧
    (∀ nn, exec (jpRow .nc nn) s = if s.cpu.flags.c then .next s else go nn) ∧
    (∀ nn, exec (jpRow .c nn) s = if s.cpu.flags.c then go nn else .next s) ∧
    (∀ e, exec (jrRow .nz e) s = if s.cpu.flags.z then .next s else go (rel e)) ∧
    (∀ e, exec (jrRow .z e) s = if s.cpu.flags.z then go (rel e) else .next s) ∧
    (∀ e, exec (jrRow .nc e) s = if s.cpu.flags.c then .next s else go (rel e)) ∧
    (∀ e, exec (jrRow .c e) s = if s.cpu.flags.c then go (rel e) else .next s)

/-- The calls and restarts (R355, R356, R360): one internal cycle, the return address pushed high byte first, then the target;
a call not taken leaves the state after the fetch. -/
def Obligations.Calls : Prop :=
  ∀ s : State,
    let go (a : Word) : Result :=
      let t := pushed16 s.cpu.pc (cycle s)
      .next { t with cpu.pc := a }
    (∀ nn, exec (.callnn nn) s = go nn) ∧
    (∀ k : Oct, exec (rstRow k) s = go (BitVec.ofNat 16 (8 * k.toNat))) ∧
    (∀ nn, exec (callRow .nz nn) s = if s.cpu.flags.z then .next s else go nn) ∧
    (∀ nn, exec (callRow .z nn) s = if s.cpu.flags.z then go nn else .next s) ∧
    (∀ nn, exec (callRow .nc nn) s = if s.cpu.flags.c then .next s else go nn) ∧
    (∀ nn, exec (callRow .c nn) s = if s.cpu.flags.c then go nn else .next s)

/-- The returns (R357 to R359): the word popped, one internal cycle, then pc; `RET cc` spends its first internal cycle in any
case; `RETI` also sets the master enable at once. -/
def Obligations.Returns : Prop :=
  ∀ s : State,
    let back (u : State) : State :=
      let r := popped16 u
      { cycle r.2 with cpu.pc := r.1 }
    exec .ret s = .next (back s) ∧
    exec .reti s = .next { back s with cpu.ime := true } ∧
    exec (retRow .nz) s = (if s.cpu.flags.z then .next (cycle s) else .next (back (cycle s))) ∧
    exec (retRow .z) s = (if s.cpu.flags.z then .next (back (cycle s)) else .next (cycle s)) ∧
    exec (retRow .nc) s = (if s.cpu.flags.c then .next (cycle s) else .next (back (cycle s))) ∧
    exec (retRow .c) s = (if s.cpu.flags.c then .next (back (cycle s)) else .next (cycle s))

/-! ## System instructions -/

/-- `NOP`, `HALT`, `DI`, `EI`, and the next check after `EI`, which sets the master enable and dispatches nothing
(46_system.md R370, R371, R373, R374; 60_exceptions.md R404). -/
def Obligations.NopHaltAndTheInterruptEnable : Prop :=
  ∀ s : State,
    exec .nop s = .next s ∧
    exec .halt s = .next { s with cpu.status := .halted } ∧
    exec .di s = .next { s with cpu.ime := false, cpu.eiDelay := false } ∧
    exec .ei s = .next { s with cpu.eiDelay := true } ∧
    (s.cpu.eiDelay = true → interruptCheck s = { s with cpu.ime := true, cpu.eiDelay := false })

/-- `STOP` by its table (R372, R377). -/
def Obligations.StopFollowsItsTable : Prop :=
  ∀ s : State,
    let button := s.joypad.lines ≠ 0b1111
    let armed := s.cpu.speedArmed = true ∧ s.cfg.mode = .color
    let pending := s.irq.ifr &&& s.irq.ie.extractLsb' 0 5 ≠ 0
    let passed : State := { s with cpu.pc := s.cpu.pc + 1 }
    let other : Speed := if s.cpu.speed = .normal then .double else .normal
    (¬ button → ¬ armed → ¬ pending → exec .stop s = .next { divReset passed with cpu.status := .stopped }) ∧
    (¬ button → ¬ armed → pending → exec .stop s = .next { divReset s with cpu.status := .stopped }) ∧
    (button → ¬ pending → exec .stop s = .next { passed with cpu.status := .halted }) ∧
    (button → pending → exec .stop s = .next { s with cpu.status := .active }) ∧
    (¬ button → armed → ¬ pending → exec .stop s =
      .next { divReset passed with cpu.speed := other, cpu.speedArmed := false, cpu.status := .active }) ∧
    (¬ button → armed → pending → exec .stop s =
      .next { divReset s with cpu.speed := other, cpu.speedArmed := false, cpu.status := .active })

/-- An undefined opcode sets the fault, with the opcode and the address it was fetched from, and changes nothing else; the
next step does not exist (R376; 60_exceptions.md R430, R431). -/
def Obligations.UndefinedOpcodesFault : Prop :=
  ∀ (op : Byte) (i : Instr) (s : State), (op, i) ∈ illegals →
    let f := Fatal.unimplementedOpcode op (s.cpu.pc - 1)
    decode [op] = .ok (i, []) ∧
    exec i s = .next { s with cpu.fault := some f } ∧
    step { s with cpu.fault := some f } = .fault (.fatal f)

/-! ## The whole machine -/

/-- Every step keeps the invariant. -/
def Obligations.StepKeepsTheInvariant : Prop :=
  ∀ s t : State, s.Inv → step s = .next t → t.Inv

/-- The reset state has the invariant; the recommended profile fits every parameter set; and every launch with a profile that
fits, and with canonical external RAM and a clock below one second, starts in the invariant. -/
def Obligations.ResetHasTheInvariant : Prop :=
  State.reset.Inv ∧
  (∀ cfg : Params, (Profile.recommended cfg.mode).Fits cfg) ∧
  ∀ (image : List Byte) (args : LaunchArgs) (s : State),
    args.xram.wf → args.clock.subsec < ticksPerSecond → (∀ p, args.reset = some p → p.Fits s.cfg) →
    launch image args = .ok s → s.Inv

/-- What a launch fixes, no step changes: the parameters, the ROM content, the controller variant and its features
(00_scope.md R7; 20_memory.md R92; 62_boundary_units.md R560). -/
def Obligations.StepKeepsWhatTheLaunchFixed : Prop :=
  ∀ s t : State, step s = .next t →
    t.cfg = s.cfg ∧ t.cart.rom = s.cart.rom ∧ t.cart.kind = s.cart.kind ∧ t.cart.romBanks = s.cart.romBanks ∧
    t.cart.ramBanks = s.cart.ramBanks ∧ t.cart.hasClock = s.cart.hasClock ∧ t.cart.battery = s.cart.battery ∧
    t.joypad.joy = s.joypad.joy

/-- THE MEMORY FRAME OF EVERY INSTRUCTION. While no VRAM transfer is armed, an instruction that stores only to plain memory
completes, and every address whose cell is not one it stores to reads as before: all of memory, for an instruction that
stores nothing. -/
def Obligations.InstructionsStoreOnlyWhereTheySay : Prop :=
  ∀ (i : Instr) (s : State), s.hdma.active = false → (∀ a, StoresTo i s a → s.Plain a) →
    ∃ t, exec i s = .next t ∧
      ∀ b c, s.place b = some c → (∀ a, StoresTo i s a → s.place a ≠ some c) → busRead t b = busRead s b

/-- Which instructions touch the control state: the master enable only DI and RETI, its deferral only EI and DI, the status only
HALT and STOP, the speed only STOP, the fault only the undefined opcodes. Every instruction completes. -/
def Obligations.ControlStateChangesOnlyWhereStated : Prop :=
  ∀ (i : Instr) (s : State), ∃ t, exec i s = .next t ∧
    (i ≠ .di → i ≠ .reti → t.cpu.ime = s.cpu.ime) ∧
    (i ≠ .ei → i ≠ .di → t.cpu.eiDelay = s.cpu.eiDelay) ∧
    (i ≠ .halt → i ≠ .stop → t.cpu.status = s.cpu.status) ∧
    (i ≠ .stop → t.cpu.speed = s.cpu.speed) ∧
    ((∀ op, (op, i) ∉ illegals) → t.cpu.fault = s.cpu.fault)

/-- The frame of a machine cycle (60_exceptions.md R401, R402): no register of the processor, no parameter, no enable bit and no
input changes; of the bus nothing but the latched status line, of the pixel port nothing but its position and mode, of the
cartridge nothing but its clock, of the memories nothing but video RAM, and that and the transfer only while a transfer is
armed; every address keeps its cell and reads it as before. No pending bit is cleared, serial and joypad are not requested, and
line 0 is requested exactly in the cycle that enters vertical blank (20_memory.md R147). -/
def Obligations.CycleMovesOnlyTheClockedUnits : Prop :=
  ∀ s : State,
    (cycle s).cpu = s.cpu ∧ (cycle s).cfg = s.cfg ∧ (cycle s).irq.ie = s.irq.ie ∧ (cycle s).joypad = s.joypad ∧
    (cycle s).serial = s.serial ∧ (cycle s).cycles = s.cycles + 1 ∧
    { (cycle s).bus with statLine := s.bus.statLine } = s.bus ∧
    { (cycle s).ram with vram := s.ram.vram } = s.ram ∧
    (s.hdma.active = false → (cycle s).ram = s.ram ∧ (cycle s).hdma = s.hdma) ∧
    { (cycle s).cart with clock := s.cart.clock } = s.cart ∧
    { (cycle s).ppu with mode := s.ppu.mode, dot := s.ppu.dot, ly := s.ppu.ly } = s.ppu ∧
    (cycle s).timer.tma = s.timer.tma ∧ (cycle s).timer.tac = s.timer.tac ∧
    (∀ k, s.irq.ifr.getLsbD k = true → (cycle s).irq.ifr.getLsbD k = true) ∧
    (∀ k, k = 3 ∨ k = 4 → (cycle s).irq.ifr.getLsbD k = s.irq.ifr.getLsbD k) ∧
    (s.ppu.InFrame → (cycle s).irq.ifr.getLsbD 0 = (s.irq.ifr.getLsbD 0 ||
      decide (s.ppu.ly = 143 ∧ 456 ≤ s.ppu.dot + (if s.cpu.speed = .normal then 4 else 2)))) ∧
    (∀ a, (cycle s).place a = s.place a) ∧
    (∀ a c, s.place a = some c → c.1 ≠ .vram ∨ s.hdma.active = false → busRead (cycle s) a = busRead s a)

/-- Read after write in plain memory, through every address: an address that reaches the stored cell reads the byte, every other
address reads as before, and no address changes its cell (20_memory.md R89). -/
def Obligations.StoredByteReadsBack : Prop :=
  ∀ (s : State) (a b : Word) (v : Byte) (c : Store × Nat), s.place a = some c → c.1 ≠ .rom →
    busRead (busWrite a v s) b = (if s.place b = some c then v else busRead s b) ∧
    (busWrite a v s).place b = s.place b

/-- Every address is in exactly one region, and the echo reaches the cell 0x2000 below (R81, R83, R97). -/
def Obligations.EveryAddressHasOneRegion : Prop :=
  (∀ (a : Word) (r : Region), regionOf a = r ↔ (regionRange r).1 ≤ a.toNat ∧ a.toNat ≤ (regionRange r).2) ∧
  (∀ (s : State) (a : Word) (v : Byte), regionOf a = .echo →
    busRead s a = busRead s (a - 0x2000) ∧ busWrite a v s = busWrite (a - 0x2000) v s)

/-- Addresses with no register read `P_FILL` and ignore writes: the unusable range, the unmapped I/O addresses, and in Mono the
registers marked C (R99, R118, R119). -/
def Obligations.UnmappedAddressesReadFill : Prop :=
  ∀ (s : State) (v : Byte),
    (∀ a, regionOf a = .unusable → busRead s a = s.cfg.fill ∧ busWrite a v s = s) ∧
    (∀ off, unmapped off → busRead s (ioAddr off) = s.cfg.fill ∧ busWrite (ioAddr off) v s = s) ∧
    (s.cfg.mode = .mono → ∀ off, colorOnly off → busRead s (ioAddr off) = s.cfg.fill ∧ busWrite (ioAddr off) v s = s)

/-- What the registers outside the sound unit read, and what a write to the ones that only store does (R102, R110 to R112, R114,
R117, R120 to R122, R140, R143; 10_state.md R53, R57; 62_boundary_units.md R557): unused bits read 1, HDMA1 to HDMA4 read
`P_FILL`. The writes that do more are in statements of their own. -/
def Obligations.RegistersReadAsTheTableSays : Prop :=
  ∀ (s : State) (v : Byte),
    (busRead s 0xFF00 = 0b11#2 ++ s.joypad.sel ++ s.joypad.lines ∧
      busRead s 0xFF01 = s.serial.sb ∧
      busRead s 0xFF02 = s.serial.sc ||| (if s.cfg.mode = .mono then 0x7E else 0x7C) ∧
      busRead s 0xFF04 = hi s.timer.div16 ∧
      busRead s 0xFF05 = s.timer.tima ∧
      busRead s 0xFF06 = s.timer.tma ∧
      busRead s 0xFF07 = 0b11111#5 ++ s.timer.tac ∧
      busRead s 0xFF0F = 0b111#3 ++ s.irq.ifr ∧
      busRead s 0xFF46 = s.bus.dmaReg ∧
      busRead s 0xFFFF = s.irq.ie) ∧
    (busRead s 0xFF40 = s.ppu.lcdc ∧
      busRead s 0xFF41 = 1#1 ++ s.ppu.statEn ++ BitVec.ofBool (decide (BitVec.ofNat 8 s.ppu.ly = s.ppu.lyc)) ++
        (match s.ppu.mode with | .hblank => 0b00#2 | .vblank => 0b01#2 | .oamScan => 0b10#2 | .pixelTransfer => 0b11#2) ∧
      busRead s 0xFF42 = s.ppu.scy ∧ busRead s 0xFF43 = s.ppu.scx ∧
      busRead s 0xFF44 = BitVec.ofNat 8 s.ppu.ly ∧ busRead s 0xFF45 = s.ppu.lyc ∧
      busRead s 0xFF47 = s.ppu.bgp ∧ busRead s 0xFF48 = s.ppu.obp0 ∧ busRead s 0xFF49 = s.ppu.obp1 ∧
      busRead s 0xFF4A = s.ppu.wy ∧ busRead s 0xFF4B = s.ppu.wx) ∧
    (s.cfg.mode = .color →
      busRead s 0xFF4D = BitVec.ofBool (decide (s.cpu.speed = .double)) ++ 0b111111#6 ++ BitVec.ofBool s.cpu.speedArmed ∧
      busRead s 0xFF4F = 0b1111111#7 ++ s.bus.vbk ∧
      busRead s 0xFF55 = BitVec.ofBool (!s.hdma.active) ++ s.hdma.remaining ∧
      busRead s 0xFF70 = 0b11111#5 ++ s.bus.svbk ∧
      (∀ off, 0x51 ≤ off → off ≤ 0x54 → busRead s (ioAddr off) = s.cfg.fill)) ∧
    (busWrite 0xFF00 v s = joypadEvaluate { s with joypad.sel := v.extractLsb' 4 2 } ∧
      busWrite 0xFF01 v s = { s with serial.sb := v } ∧
      busWrite 0xFF02 v s = { s with serial.sc := v } ∧
      busWrite 0xFF0F v s = { s with irq.ifr := v.extractLsb' 0 5 } ∧
      busWrite 0xFFFF v s = { s with irq.ie := v }) ∧
    (busWrite 0xFF40 v s = { s with ppu.lcdc := v } ∧
      busWrite 0xFF42 v s = { s with ppu.scy := v } ∧ busWrite 0xFF43 v s = { s with ppu.scx := v } ∧
      busWrite 0xFF47 v s = { s with ppu.bgp := v } ∧ busWrite 0xFF48 v s = { s with ppu.obp0 := v } ∧
      busWrite 0xFF49 v s = { s with ppu.obp1 := v } ∧
      busWrite 0xFF4A v s = { s with ppu.wy := v } ∧ busWrite 0xFF4B v s = { s with ppu.wx := v }) ∧
    (s.cfg.mode = .color →
      busWrite 0xFF4D v s = { s with cpu.speedArmed := v.getLsbD 0 } ∧
      busWrite 0xFF4F v s = { s with bus.vbk := v.extractLsb' 0 1 } ∧
      busWrite 0xFF70 v s = { s with bus.svbk := v.extractLsb' 0 3 } ∧
      (busWrite 0xFF70 v s).place 0xD000 = some (.wram, (if v.toNat % 8 = 0 then 1 else v.toNat % 8) * 0x1000) ∧
      (busWrite 0xFF4F v s).place 0x8000 = some (.vram, v.toNat % 2 * 0x2000))

/-! ## The timer -/

/-- The timer edge law (61_timer_and_sound.md R461 to R465): in one machine cycle, with no reload pending, the counter moves by one
exactly when the selected bit falls while enabled; an overflow leaves 0x00 and a pending reload and requests nothing; a
pending reload loads the modulo and requests line 2. -/
def Obligations.TimerCountsFallingEdges : Prop :=
  ∀ s : State,
    let t := timerAdvance 4 s
    let falls := s.timer.tac.getLsbD 2 = true ∧ fallsInFour (selectedBit (s.timer.tac.toNat % 4)) s.timer.div16
    t.timer.div16 = s.timer.div16 + 4 ∧ t.timer.tma = s.timer.tma ∧ t.timer.tac = s.timer.tac ∧
    (s.timer.reloadPending = false →
      t.irq = s.irq ∧
      (¬ falls → t.timer.tima = s.timer.tima ∧ t.timer.reloadPending = false) ∧
      (falls → s.timer.tima ≠ 0xFF → t.timer.tima = s.timer.tima + 1 ∧ t.timer.reloadPending = false) ∧
      (falls → s.timer.tima = 0xFF → t.timer.tima = 0x00 ∧ t.timer.reloadPending = true)) ∧
    (s.timer.reloadPending = true →
      t.irq = { s.irq with ifr := s.irq.ifr ||| 0b00100 } ∧
      (¬ falls → t.timer.tima = s.timer.tma ∧ t.timer.reloadPending = false))

/-- Writes to the timer's registers (R466 to R468): any write to DIV clears the divider, and counts if the signal was 1; a write
to TIMA cancels a pending reload; a write to TAC counts if it makes the signal fall; a write to TMA stores. -/
def Obligations.TimerRegisterWrites : Prop :=
  ∀ (s : State) (v : Byte),
    let signal (tac : BitVec 3) : Bool := s.timer.div16.getLsbD (selectedBit (tac.toNat % 4)) && tac.getLsbD 2
    let counted (t : Timer) : Timer :=
      if t.tima = 0xFF then { t with tima := 0x00, reloadPending := true } else { t with tima := t.tima + 1 }
    let seqBit := if s.cpu.speed = .normal then s.timer.div16.getLsbD 12 else s.timer.div16.getLsbD 13
    let cleared : Timer := { s.timer with div16 := 0 }
    let selected : Timer := { s.timer with tac := v.extractLsb' 0 3 }
    busWrite 0xFF04 v s =
      { s with
        timer := if signal s.timer.tac = true then counted cleared else cleared
        sound := if seqBit = true then s.sound.frameSequencerStep else s.sound } ∧
    busWrite 0xFF05 v s = { s with timer := { s.timer with tima := v, reloadPending := false } } ∧
    busWrite 0xFF06 v s = { s with timer.tma := v } ∧
    busWrite 0xFF07 v s =
      { s with timer := if signal s.timer.tac = true ∧ signal (v.extractLsb' 0 3) = false then counted selected else selected }

/-! ## Copies, palettes, the status line -/

/-- The object-attribute copy (20_memory.md R130): all 160 bytes inside the write, from the page written, in order; the register
and OAM are all that changes. -/
def Obligations.ObjectAttributeCopy : Prop :=
  ∀ (s : State) (v : Byte),
    let t := busWrite 0xFF46 v s
    t = { s with bus.dmaReg := v, ram.oam := t.ram.oam } ∧
    ∀ k, k < 160 → busRead t (BitVec.ofNat 16 (0xFE00 + k)) =
      busRead { s with bus.dmaReg := v } (BitVec.ofNat 16 (256 * v.toNat + k))

/-- One block of the VRAM transfer (R135) from a source outside video RAM: sixteen bytes, the destination wrapping inside the
mapped bank; every other cell keeps its byte. -/
def Obligations.VramBlockCopy : Prop :=
  ∀ (s : State) (src dst : Word),
    (∀ j, j < 16 → regionOf (src + BitVec.ofNat 16 j) ≠ .vram) →
    let t := copyBlock src dst s
    let key (j : Nat) : Nat := s.bus.vbk.toNat * 0x2000 + (dst.toNat + j) % 0x2000
    t = { s with ram.vram := t.ram.vram } ∧
    (∀ j, j < 16 → t.ram.vram.get? (key j) = some (busRead s (src + BitVec.ofNat 16 j))) ∧
    (∀ k, (∀ j, j < 16 → k ≠ key j) → t.ram.vram.get? k = s.ram.vram.get? k)

/-- Writes to HDMA1 to HDMA5 in Color, and the block of the end-of-horizontal-blank event (R110, R136 to R139). -/
def Obligations.VramTransferRegisters : Prop :=
  ∀ (s : State) (v : Byte),
    let d := s.hdma
    let src : Word := (word d.h1 d.h2) &&& 0xFFF0
    let dst : Word := 0x8000 ||| ((word d.h3 d.h4) &&& 0x1FF0)
    (s.cfg.mode = .color →
      busWrite 0xFF51 v s = { s with hdma.h1 := v } ∧ busWrite 0xFF52 v s = { s with hdma.h2 := v } ∧
      busWrite 0xFF53 v s = { s with hdma.h3 := v } ∧ busWrite 0xFF54 v s = { s with hdma.h4 := v } ∧
      (d.active = true → v.getLsbD 7 = false → busWrite 0xFF55 v s = { s with hdma.active := false }) ∧
      (v.getLsbD 7 = true → busWrite 0xFF55 v s =
        { s with hdma := { d with active := true, remaining := v.extractLsb' 0 7, src := src, dst := dst } }) ∧
      (d.active = false → v.getLsbD 7 = false → busWrite 0xFF55 v s =
        { copyBlocks (v.toNat % 128 + 1) src dst s with hdma := { d with active := false, remaining := 0x7F } })) ∧
    (d.active = false → hblankBlock s = s) ∧
    (d.active = true → hblankBlock s =
      { copyBlock d.src d.dst s with
        hdma := { d with
          src := d.src + 16, dst := d.dst + 16, active := decide (d.remaining ≠ 0)
          remaining := if d.remaining = 0 then 0x7F else d.remaining - 1 } })

/-- The palette registers in Color (R141 to R143): the index register, the data write with its increment, and the read back. -/
def Obligations.PaletteRegisters : Prop :=
  ∀ (s : State) (v : Byte), s.cfg.mode = .color →
    busWrite 0xFF68 v s = { s with bus.bcps := { idx := v.extractLsb' 0 6, autoinc := v.getLsbD 7 } } ∧
    busWrite 0xFF6A v s = { s with bus.ocps := { idx := v.extractLsb' 0 6, autoinc := v.getLsbD 7 } } ∧
    busRead s 0xFF68 = BitVec.ofBool s.bus.bcps.autoinc ++ 1#1 ++ s.bus.bcps.idx ∧
    busRead s 0xFF6A = BitVec.ofBool s.bus.ocps.autoinc ++ 1#1 ++ s.bus.ocps.idx ∧
    (let t := busWrite 0xFF69 v s
     t.bus.bcps = { s.bus.bcps with idx := if s.bus.bcps.autoinc then s.bus.bcps.idx + 1 else s.bus.bcps.idx } ∧
     busRead { t with bus.bcps := s.bus.bcps } 0xFF69 = v ∧
     t = { s with bus.bcps := t.bus.bcps, ram.bgpal := t.ram.bgpal } ∧
     (∀ k, k ≠ s.bus.bcps.idx.toNat → t.ram.bgpal.get? k = s.ram.bgpal.get? k)) ∧
    (let t := busWrite 0xFF6B v s
     t.bus.ocps = { s.bus.ocps with idx := if s.bus.ocps.autoinc then s.bus.ocps.idx + 1 else s.bus.ocps.idx } ∧
     busRead { t with bus.ocps := s.bus.ocps } 0xFF6B = v ∧
     t = { s with bus.ocps := t.bus.ocps, ram.obpal := t.ram.obpal } ∧
     (∀ k, k ≠ s.bus.ocps.idx.toNat → t.ram.obpal.get? k = s.ram.obpal.get? k))

/-- The latched status line (R145, R146): the condition, the request on its 0→1 transition only, and the writes to STAT and LYC
that recompute it. -/
def Obligations.StatusLineRequestsOnItsRise : Prop :=
  ∀ (s : State) (v : Byte),
    let cond (p : Ppu) : Prop :=
      (p.statEn.getLsbD 3 = true ∧ BitVec.ofNat 8 p.ly = p.lyc) ∨ (p.statEn.getLsbD 2 = true ∧ p.mode = .oamScan) ∨
      (p.statEn.getLsbD 1 = true ∧ p.mode = .vblank) ∨ (p.statEn.getLsbD 0 = true ∧ p.mode = .hblank)
    (¬ cond s.ppu → statUpdate s = { s with bus.statLine := false }) ∧
    (cond s.ppu → s.bus.statLine = true → statUpdate s = s) ∧
    (cond s.ppu → s.bus.statLine = false →
      statUpdate s = { s with bus.statLine := true, irq.ifr := s.irq.ifr ||| 0b00010 }) ∧
    busWrite 0xFF41 v s = statUpdate { s with ppu.statEn := v.extractLsb' 3 4 } ∧
    busWrite 0xFF45 v s = statUpdate { s with ppu.lyc := v } ∧
    busWrite 0xFF44 v s = s

/-! ## The sound unit -/

/-- A trigger (61_timer_and_sound.md R483, R490, R491, R493, R503): a length that is not zero is kept, a zero one becomes full;
the frequency timer, the volume, the envelope timer and the envelope in use, channel 3's position, channel 4's shift register
and channel 1's sweep are reloaded; the channel is enabled exactly if its DAC is on and, for channel 1, the first sweep
calculation does not overflow. Nothing else of the sound unit changes but the register written. The latch of the envelope is
the model's (notes/assumptions/21.md). -/
def Obligations.TriggerKeepsANonzeroLength : Prop :=
  ∀ (s : State) (v : Byte), s.sound.power = true → v.getLsbD 7 = true →
    let full (n top : Nat) : Nat := if n = 0 then top else n
    let r := s.sound.regs
    let frequency (low : Byte) : Nat := 256 * (v.toNat % 8) + low.toNat
    let f1 := frequency r.nr13
    let overflows := r.nr10.toNat % 8 ≠ 0 ∧ swept f1 r.nr10 > 2047
    let enveloped (nrk2 : Byte) (volume timer : BitVec 4) (env : Envelope) : Prop :=
      volume.toNat = nrk2.toNat / 16 ∧ timer.toNat = periodOr8 (nrk2.toNat % 8) ∧
      env.up = nrk2.getLsbD 3 ∧ env.period.toNat = nrk2.toNat % 8
    let t1 := (busWrite 0xFF14 v s).sound
    let t2 := (busWrite 0xFF19 v s).sound
    let t3 := (busWrite 0xFF1E v s).sound
    let t4 := (busWrite 0xFF23 v s).sound
    (t1 = { s.sound with regs.nr14 := v &&& 0x7F, ch1 := t1.ch1, sweep := t1.sweep } ∧
      t1.ch1.length = full s.sound.ch1.length 64 ∧ t1.ch1.freqTimer = (2048 - f1) * 4 ∧
      enveloped r.nr12 t1.ch1.volume t1.ch1.envTimer t1.ch1.env ∧ t1.ch1.dutyPos = s.sound.ch1.dutyPos ∧
      t1.sweep.shadow.toNat = f1 ∧ t1.sweep.timer.toNat = periodOr8 (r.nr10.toNat / 16 % 8) ∧
      (t1.sweep.enabled = true ↔ r.nr10.toNat / 16 % 8 ≠ 0 ∨ r.nr10.toNat % 8 ≠ 0) ∧
      (t1.ch1.enabled = true ↔ r.nr12.toNat ≥ 8 ∧ ¬ overflows)) ∧
    (t2 = { s.sound with regs.nr24 := v &&& 0x7F, ch2 := t2.ch2 } ∧
      t2.ch2.length = full s.sound.ch2.length 64 ∧ t2.ch2.freqTimer = (2048 - frequency r.nr23) * 4 ∧
      enveloped r.nr22 t2.ch2.volume t2.ch2.envTimer t2.ch2.env ∧ t2.ch2.dutyPos = s.sound.ch2.dutyPos ∧
      (t2.ch2.enabled = true ↔ r.nr22.toNat ≥ 8)) ∧
    (t3 = { s.sound with regs.nr34 := v &&& 0x7F, ch3 := t3.ch3 } ∧
      t3.ch3.length = full s.sound.ch3.length 256 ∧ t3.ch3.freqTimer = (2048 - frequency r.nr33) * 2 ∧ t3.ch3.wavePos = 0 ∧
      (t3.ch3.enabled = true ↔ r.nr30.getLsbD 7 = true)) ∧
    (t4 = { s.sound with regs.nr44 := v &&& 0x7F, ch4 := t4.ch4 } ∧
      t4.ch4.length = full s.sound.ch4.length 64 ∧
      t4.ch4.freqTimer = (if r.nr43.toNat % 8 = 0 then 8 else 16 * (r.nr43.toNat % 8)) * 2 ^ (r.nr43.toNat / 16) ∧
      enveloped r.nr42 t4.ch4.volume t4.ch4.envTimer t4.ch4.env ∧ t4.ch4.lfsr = 0x7FFF ∧
      (t4.ch4.enabled = true ↔ r.nr42.toNat ≥ 8))

/-- The sound registers and their power (R479 to R489, R493): the read masks; with the power on, what each write stores, loads and
disables, a trigger apart; with the power off, every register but NR52 and the wave table ignores writes; turning it off
clears the twenty registers and silences the channels; turning it on; the wave table is plain storage. That turning it off
also clears the envelopes in use is the model's choice (notes/assumptions/21.md). -/
def Obligations.SoundPower : Prop :=
  ∀ (s : State) (v : Byte),
    let u := s.sound
    let r := u.regs
    let reads (off : Nat) (w : Byte) : Prop := busRead s (ioAddr off) = w
    let writes (off : Nat) (x : Sound) : Prop := busWrite (ioAddr off) v s = { s with sound := x }
    let length := 64 - v.toNat % 64
    let dac := decide (v.toNat ≥ 8)
    (reads 0x10 (r.nr10 ||| 0x80) ∧ reads 0x11 (r.nr11 ||| 0x3F) ∧ reads 0x12 r.nr12 ∧ reads 0x13 0xFF ∧
      reads 0x14 (r.nr14 ||| 0xBF) ∧ reads 0x16 (r.nr21 ||| 0x3F) ∧ reads 0x17 r.nr22 ∧ reads 0x18 0xFF ∧
      reads 0x19 (r.nr24 ||| 0xBF) ∧ reads 0x1A (r.nr30 ||| 0x7F) ∧ reads 0x1B 0xFF ∧ reads 0x1C (r.nr32 ||| 0x9F) ∧
      reads 0x1D 0xFF ∧ reads 0x1E (r.nr34 ||| 0xBF) ∧ reads 0x20 0xFF ∧ reads 0x21 r.nr42 ∧ reads 0x22 r.nr43 ∧
      reads 0x23 (r.nr44 ||| 0xBF) ∧ reads 0x24 r.nr50 ∧ reads 0x25 r.nr51 ∧
      reads 0x26 (BitVec.ofBool u.power ++ 0b111#3 ++ BitVec.ofBool u.ch4.enabled ++ BitVec.ofBool u.ch3.enabled ++
        BitVec.ofBool u.ch2.enabled ++ BitVec.ofBool u.ch1.enabled)) ∧
    (u.power = true →
      writes 0x10 { u with regs.nr10 := v } ∧
      writes 0x11 { u with regs.nr11 := v, ch1.length := length } ∧
      writes 0x12 { u with regs.nr12 := v, ch1.enabled := u.ch1.enabled && dac } ∧
      writes 0x13 { u with regs.nr13 := v } ∧
      writes 0x16 { u with regs.nr21 := v, ch2.length := length } ∧
      writes 0x17 { u with regs.nr22 := v, ch2.enabled := u.ch2.enabled && dac } ∧
      writes 0x18 { u with regs.nr23 := v } ∧
      writes 0x1A { u with regs.nr30 := v, ch3.enabled := u.ch3.enabled && v.getLsbD 7 } ∧
      writes 0x1B { u with regs.nr31 := v, ch3.length := 256 - v.toNat } ∧
      writes 0x1C { u with regs.nr32 := v } ∧ writes 0x1D { u with regs.nr33 := v } ∧
      writes 0x20 { u with regs.nr41 := v, ch4.length := length } ∧
      writes 0x21 { u with regs.nr42 := v, ch4.enabled := u.ch4.enabled && dac } ∧
      writes 0x22 { u with regs.nr43 := v } ∧ writes 0x24 { u with regs.nr50 := v } ∧ writes 0x25 { u with regs.nr51 := v } ∧
      (v.getLsbD 7 = false →
        writes 0x14 { u with regs.nr14 := v } ∧ writes 0x19 { u with regs.nr24 := v } ∧
        writes 0x1E { u with regs.nr34 := v } ∧ writes 0x23 { u with regs.nr44 := v })) ∧
    (u.power = false → ∀ off, 0x10 ≤ off → off ≤ 0x25 → busWrite (ioAddr off) v s = s) ∧
    (u.power = true → v.getLsbD 7 = false → writes 0x26 { u with
      power := false
      regs := { nr10 := 0, nr11 := 0, nr12 := 0, nr13 := 0, nr14 := 0, nr21 := 0, nr22 := 0, nr23 := 0, nr24 := 0
                nr30 := 0, nr31 := 0, nr32 := 0, nr33 := 0, nr34 := 0, nr41 := 0, nr42 := 0, nr43 := 0, nr44 := 0
                nr50 := 0, nr51 := 0 }
      ch1 := { u.ch1 with enabled := false, env := { up := false, period := 0 } }
      ch2 := { u.ch2 with enabled := false, env := { up := false, period := 0 } }
      ch3 := { u.ch3 with enabled := false }
      ch4 := { u.ch4 with enabled := false, env := { up := false, period := 0 } } }) ∧
    (u.power = false → v.getLsbD 7 = true → writes 0x26 { u with
      power := true, fsStep := 0, ch1 := { u.ch1 with dutyPos := 0 }, ch2 := { u.ch2 with dutyPos := 0 }
      ch3 := { u.ch3 with wavePos := 0 } }) ∧
    (u.power = v.getLsbD 7 → busWrite 0xFF26 v s = s) ∧
    (∀ k, k < 16 →
      let t := busWrite (ioAddr (0x30 + k)) v s
      t = { s with ram.wave := t.ram.wave } ∧
      ∀ j, j < 16 → busRead t (ioAddr (0x30 + j)) = if j = k then v else busRead s (ioAddr (0x30 + j)))

/-- The frame sequencer (R500 to R504): on even steps the four lengths, on steps 2 and 6 the sweep too, on step 7 the three
envelopes, on steps 1, 3 and 5 nothing; a length that reaches zero disables its channel. All that a step may change of a
channel is its length, enable flag, volume and envelope timer. -/
def Obligations.FrameSequencerSchedule : Prop :=
  ∀ u : Sound,
    let t := u.frameSequencerStep
    let n := u.fsStep.toNat
    let r := u.regs
    let l1 := lengthAfter r.nr14 u.ch1.length u.ch1.enabled
    let l2 := lengthAfter r.nr24 u.ch2.length u.ch2.enabled
    let l3 := lengthAfter r.nr34 u.ch3.length u.ch3.enabled
    let l4 := lengthAfter r.nr44 u.ch4.length u.ch4.enabled
    let counted : Sound := { u with
      fsStep := u.fsStep + 1
      ch1.length := l1.1, ch1.enabled := l1.2, ch2.length := l2.1, ch2.enabled := l2.2
      ch3.length := l3.1, ch3.enabled := l3.2, ch4.length := l4.1, ch4.enabled := l4.2 }
    (u.power = false → t = u) ∧
    (u.power = true →
      (n = 0 ∨ n = 4 → t = counted) ∧
      (n = 2 ∨ n = 6 →
        t = { counted with sweep := t.sweep, regs := t.regs, ch1.enabled := t.ch1.enabled } ∧
        SweepMoves u.sweep r l1.2 t.sweep t.regs t.ch1.enabled) ∧
      (n = 1 ∨ n = 3 ∨ n = 5 → t = { u with fsStep := u.fsStep + 1 }) ∧
      (n = 7 →
        t = { u with
          fsStep := 0
          ch1.volume := t.ch1.volume, ch1.envTimer := t.ch1.envTimer, ch2.volume := t.ch2.volume
          ch2.envTimer := t.ch2.envTimer, ch4.volume := t.ch4.volume, ch4.envTimer := t.ch4.envTimer } ∧
        EnvelopeMoves u.ch1.env u.ch1.volume u.ch1.envTimer t.ch1.volume t.ch1.envTimer ∧
        EnvelopeMoves u.ch2.env u.ch2.volume u.ch2.envTimer t.ch2.volume t.ch2.envTimer ∧
        EnvelopeMoves u.ch4.env u.ch4.volume u.ch4.envTimer t.ch4.volume t.ch4.envTimer))

/-! ## The ports -/

/-- The scanline machine over any number of ticks (62_boundary_units.md R552, R555): the position in the frame moves by one dot a
tick modulo 70224, the mode is that of the position, and no register changes. -/
def Obligations.FrameIs70224Dots : Prop :=
  ∀ (n : Nat) (p : Ppu), p.InFrame →
    let q := (p.advance n).1
    q.InFrame ∧ framePos q = (framePos p + n) % 70224 ∧ q = { p with mode := q.mode, dot := q.dot, ly := q.ly }

/-- The document's scenario 3: from scanline 0, dot 0, OAM-scan: after 80 dots pixel-transfer, after 456 dots scanline 1 in
OAM-scan; and the same in machine cycles: 20, 92 and 114 (R556). -/
def Obligations.ScanlineScenario : Prop :=
  ∀ p : Ppu, p.ly = 0 → p.dot = 0 → p.mode = .oamScan →
    (p.advance 80).1.mode = .pixelTransfer ∧ (p.advance 80).1.ly = 0 ∧ (p.advance 368).1.mode = .hblank ∧
    (p.advance 456).1.ly = 1 ∧ (p.advance 456).1.dot = 0 ∧ (p.advance 456).1.mode = .oamScan ∧
    (ppuCycles 20 p).mode = .pixelTransfer ∧ (ppuCycles 92 p).mode = .hblank ∧
    (ppuCycles 114 p).ly = 1 ∧ (ppuCycles 114 p).mode = .oamScan

/-- The document's scenario 2 (R564). -/
def Obligations.BankSelectScenario : Prop :=
  ∀ s : State, s.cart.kind = .controller1 → s.cart.romBanks = 8 → s.cart.bankHi = 0 →
    (busWrite 0x2100 0x05 s).cart.bankLo = 5 ∧ (busWrite 0x2100 0x05 s).cart.bankHi = 0 ∧
    busRead (busWrite 0x2100 0x05 s) 0x4010 = cell .rom s.cart.rom (5 * 0x4000 + 0x10)

/-- The bank controllers (R560 to R567): the cartridge answers its address ranges; what a write below 0x8000 stores, by variant;
the bank each ROM window shows, always inside the image; the external RAM bank, always one the cartridge has; and the RAM cell
behind an address. The reduction of Controller-3's numbers modulo the bank count is the model's choice
(notes/assumptions/16.md), and so are select codes that name nothing (15.md). -/
def Obligations.BanksStayInTheImage : Prop :=
  (∀ (s : State) (a : Word) (v : Byte), regionOf a = .rom ∨ regionOf a = .xram →
    busRead s a = s.cart.read s.cfg.fill a ∧ busWrite a v s = { s with cart := s.cart.write a v }) ∧
  (∀ (c : Cart) (a : Word) (v : Byte), a.toNat < 0x8000 →
    let q := a.toNat / 0x2000
    let t := c.write a v
    let enabled : Cart := { c with ramEnable := decide (v.toNat % 16 = 0xA) }
    (c.kind = .romOnly → t = c) ∧
    (c.kind ≠ .romOnly → q = 0 → t = enabled) ∧
    (c.kind = .controller1 →
      (q = 1 → t = { c with bankLo := v.extractLsb' 0 5 }) ∧ (q = 2 → t = { c with bankHi := v.extractLsb' 0 2 }) ∧
      (q = 3 → t = { c with bankMode := v.getLsbD 0 })) ∧
    (c.kind = .controller3 →
      (q = 1 → t = { c with romBank3 := v.extractLsb' 0 7 }) ∧ (q = 2 → t = { c with sel := v }) ∧ (q = 3 → t = c)) ∧
    (c.kind = .controller5 →
      (q = 1 → t = { c with romBank5 := t.romBank5 } ∧ t.romBank5.toNat =
        if a.toNat < 0x3000 then c.romBank5.toNat / 256 * 256 + v.toNat
        else v.toNat % 2 * 256 + c.romBank5.toNat % 256) ∧
      (q = 2 → t = { c with ramBank5 := v.extractLsb' 0 4 }) ∧ (q = 3 → t = c))) ∧
  (∀ (c : Cart) (fill : Byte) (a : Word), 2 ≤ c.romBanks → a.toNat < 0x8000 →
    let lo := if c.bankLo = 0 then 1 else c.bankLo.toNat
    let lower : Nat := if c.kind = .controller1 ∧ c.bankMode = true then 32 * c.bankHi.toNat % c.romBanks else 0
    let upper : Nat :=
      match c.kind with
      | .romOnly => 1
      | .controller1 => (32 * c.bankHi.toNat + lo) % c.romBanks
      | .controller3 => (if c.romBank3 = 0 then 1 else c.romBank3.toNat) % c.romBanks
      | .controller5 => c.romBank5.toNat % c.romBanks
    let key := (if a.toNat < 0x4000 then lower else upper) * 0x4000 + a.toNat % 0x4000
    c.read fill a = cell .rom c.rom key ∧ key < c.romBanks * 0x4000) ∧
  (∀ (c : Cart) (fill v : Byte) (a : Word), 0xA000 ≤ a.toNat → a.toNat < 0xC000 →
    let key (b : Nat) : Nat := b % c.ramBanks * 0x2000 + (a.toNat - 0xA000)
    let shows (b : Nat) : Prop :=
      b % c.ramBanks < c.ramBanks ∧ c.read fill a = cell .xram c.xram (key b) ∧
      c.write a v = { c with xram := c.xram.set (key b) v }
    let absent : Prop := c.read fill a = fill ∧ c.write a v = c
    (c.kind = .romOnly → 0 < c.ramBanks → shows 0) ∧
    (c.kind = .controller1 → c.ramEnable = true → 0 < c.ramBanks → shows (if c.bankMode then c.bankHi.toNat else 0)) ∧
    (c.kind = .controller3 → c.ramEnable = true → 0 < c.ramBanks → c.sel.toNat ≤ 7 → shows c.sel.toNat) ∧
    (c.kind = .controller5 → c.ramEnable = true → 0 < c.ramBanks → shows c.ramBank5.toNat) ∧
    (c.kind ≠ .romOnly → c.ramEnable = false → absent) ∧
    (c.ramBanks = 0 → c.kind ≠ .controller3 ∨ c.sel.toNat ≤ 7 → absent) ∧
    (c.kind = .controller3 → 0x08 ≤ c.sel.toNat → c.hasClock = false ∨ 0x0D ≤ c.sel.toNat → absent))

/-- The cartridge clock (R565). One second of a clock in range moves its time by one modulo 512 days, sets the carry bit when the
day passes 511 to 0 and otherwise keeps it. An advance of any number of ticks moves a clock that is enabled and not halted by
the whole seconds of the accumulator, and no other. The five registers are read and written through the select register; the
unused bits of the last one read `P_FILL`'s, which is the model's choice (notes/assumptions/15.md). -/
def Obligations.ClockCountsSeconds : Prop :=
  (∀ (k : Clock) (free : Nat), clockInRange k →
    let r := k.second free
    clockInRange r.1 ∧ clockSeconds r.1 = (clockSeconds k + 1) % (512 * 86400) ∧ r.2 = free ∧
    r.1.carry = (k.carry || decide (clockSeconds k + 1 = 512 * 86400)) ∧ r.1.halt = k.halt ∧ r.1.subsec = k.subsec) ∧
  (∀ (c : Cart) (t free : Nat),
    let runs := c.kind = .controller3 ∧ c.hasClock = true ∧ c.ramEnable = true ∧ c.clock.halt = false
    let r := c.advance t free
    let ticks := c.clock.subsec + t
    (¬ runs → r = (c, free)) ∧
    (runs → r.1 = { c with clock := r.1.clock } ∧ r.1.clock.subsec = ticks % 4194304 ∧ r.1.clock.halt = c.clock.halt ∧
      (ticks < 4194304 → r = ({ c with clock.subsec := ticks }, free)) ∧
      (clockInRange c.clock → clockInRange r.1.clock ∧ r.2 = free ∧
        clockSeconds r.1.clock = (clockSeconds c.clock + ticks / 4194304) % (512 * 86400)))) ∧
  (∀ (c : Cart) (fill v : Byte) (a : Word),
    c.kind = .controller3 → c.hasClock = true → c.ramEnable = true → 0xA000 ≤ a.toNat → a.toNat < 0xC000 →
    let k := c.clock
    let accesses (w : Byte) (k' : Clock) : Prop := c.read fill a = w ∧ c.write a v = { c with clock := k' }
    (c.sel = 0x08 → accesses k.seconds { k with seconds := v }) ∧
    (c.sel = 0x09 → accesses k.minutes { k with minutes := v }) ∧
    (c.sel = 0x0A → accesses k.hours { k with hours := v }) ∧
    (c.sel = 0x0B → accesses (BitVec.ofNat 8 k.day.toNat)
      { k with day := BitVec.ofNat 9 (k.day.toNat / 256 * 256 + v.toNat) }) ∧
    (c.sel = 0x0C → accesses
      (BitVec.ofBool k.carry ++ BitVec.ofBool k.halt ++ fill.extractLsb' 1 5 ++ k.day.extractLsb' 8 1)
      { k with day := BitVec.ofNat 9 (v.toNat % 2 * 256 + k.day.toNat % 256), halt := v.getLsbD 6, carry := v.getLsbD 7 }))

/-- The launch rejects what its rules reject (70_reset_and_hazards.md R603; 62_boundary_units.md R570 to R573): an image too
short for its header or its declared banks, or with a RAM size code above 5; then an unknown type code. Otherwise the machine
starts with the registers of the reset profile, the host's or the recommended one of the mode (00_scope.md R7), in the mode of
the color flag unless forced, with the image in ROM, the declared ROM banks, the controller of the type code, and the declared
RAM banks if it is a ROM-only cartridge (R562) or its type has RAM. -/
def Obligations.LaunchRejectsBadImages : Prop :=
  ∀ (image : List Byte) (args : LaunchArgs),
    let code := (image.getD 0x147 0).toNat
    let known := code ∈ [0x00, 0x01, 0x02, 0x03, 0x08, 0x09, 0x0F, 0x10, 0x11, 0x12, 0x13, 0x19, 0x1A, 0x1B, 0x1C, 0x1D, 0x1E]
    let short := image.length < 0x150 ∨ image.length < 2 * 2 ^ (image.getD 0x148 0).toNat * 0x4000 ∨
      5 < (image.getD 0x149 0).toNat
    (short → launch image args = .error (.malformedRom image.length)) ∧
    (¬ short → ¬ known → launch image args = .error (.unsupportedCartridge (image.getD 0x147 0))) ∧
    (¬ short → known → ∃ s, launch image args = .ok s ∧
      s.cfg.mode = args.force.getD (if (image.getD 0x143 0).getLsbD 7 then .color else .mono) ∧
      s.cpu = (args.reset.getD (Profile.recommended s.cfg.mode)).cpu ∧
      (args.reset = none → s.cpu.fault = none ∧ s.cpu.pc = 0x0100) ∧
      (∀ k, k < image.length → s.cart.rom.get? k = image[k]?) ∧
      s.cart.romBanks = 2 * 2 ^ (image.getD 0x148 0).toNat ∧
      (s.cart.kind = .romOnly ↔ code ∈ [0x00, 0x08, 0x09]) ∧ (s.cart.kind = .controller1 ↔ code ∈ [0x01, 0x02, 0x03]) ∧
      (s.cart.kind = .controller3 ↔ code ∈ [0x0F, 0x10, 0x11, 0x12, 0x13]) ∧ (s.cart.hasClock = true ↔ code ∈ [0x0F, 0x10]) ∧
      (code ∈ [0x00, 0x08, 0x09, 0x02, 0x03, 0x10, 0x12, 0x13, 0x1A, 0x1B, 0x1D, 0x1E] →
        s.cart.ramBanks = [0, 0, 1, 4, 16, 8].getD (image.getD 0x149 0).toNat 0))

/-- What reset leaves (10_state.md R76; 70_reset_and_hazards.md R600, R602, R604; 00_scope.md R7): for any reset profile, every
piece of state holds what the profile gives; and the recommended profile, row by row of R76's two columns, with R604 for the
ports. That the recommended profile is the reset is the model's choice (notes/assumptions/5.md), and so are the clauses that
give `env` of channels 1, 2 and 4, the envelope in use, as down with period 0: no row of R76 (notes/assumptions/21.md). -/
def Obligations.ResetLeavesTheProfile : Prop :=
  (∀ (p : Profile) (cfg : Params) (c : Cart),
    let s := State.resetOf p cfg c
    s.cpu = p.cpu ∧ s.irq = p.irq ∧ s.joypad = { joy := 0x00, sel := p.joySel, prev := p.joyPrev } ∧ s.serial = p.serial ∧
    s.timer = p.timer ∧ s.ram = p.ram ∧ s.bus = p.bus ∧ s.hdma = p.hdma ∧ s.sound = p.sound ∧ s.ppu = p.ppu ∧
    s.cart = { c with toBankRegs := p.banks } ∧ s.cfg = cfg) ∧
  (∀ (mode : ConsoleMode) (cfg : Params) (c : Cart), cfg.mode = mode →
    let s := State.resetOf (Profile.recommended mode) cfg c
    let pulse : Pulse :=
      { enabled := false, length := 0, volume := 0, envTimer := 0, env := { up := false, period := 0 }, freqTimer := 0, dutyPos := 0 }
    (s.cpu.pc = 0x0100 ∧ s.cpu.sp = 0xFFFE ∧ s.cpu.ime = false ∧ s.cpu.eiDelay = false ∧ s.cpu.status = .active ∧
      s.cpu.speed = .normal ∧ s.cpu.speedArmed = false ∧ s.cpu.fault = none) ∧
    (s.irq.ifr = 0b00001 ∧ s.irq.ie = 0x00 ∧ busRead s 0xFF0F = 0xE1 ∧ s.joypad.sel = 0 ∧ s.joypad.prev = 0b1111 ∧
      s.serial.sb = 0x00 ∧ s.serial.sc = 0x00 ∧
      s.timer.tima = 0 ∧ s.timer.tma = 0 ∧ s.timer.tac = 0 ∧ s.timer.reloadPending = false) ∧
    (s.bus.svbk = 0 ∧ s.bus.vbk = 0 ∧ s.bus.statLine = false ∧
      s.ram = { wram := [], vram := [], oam := [], hram := [], wave := [], bgpal := [], obpal := [] }) ∧
    (s.sound.regs =
        { nr10 := 0, nr11 := 0, nr12 := 0, nr13 := 0, nr14 := 0, nr21 := 0, nr22 := 0, nr23 := 0, nr24 := 0
          nr30 := 0, nr31 := 0, nr32 := 0, nr33 := 0, nr34 := 0, nr41 := 0, nr42 := 0, nr43 := 0, nr44 := 0
          nr50 := 0x77, nr51 := 0xF3 } ∧
      s.sound.power = true ∧ s.sound.ch1 = pulse ∧ s.sound.ch2 = pulse ∧
      s.sound.ch3 = { enabled := false, length := 0, freqTimer := 0, wavePos := 0 } ∧
      s.sound.ch4 = { enabled := false, length := 0, volume := 0, envTimer := 0, env := { up := false, period := 0 }
                      freqTimer := 0, lfsr := 0x7FFF } ∧
      s.sound.sweep = { shadow := 0, enabled := false, timer := 0 } ∧ s.sound.fsStep = 0 ∧
      s.sound.out.counter = 0 ∧ s.sound.out.block = []) ∧
    (s.ppu.ly = 0 ∧ s.ppu.dot = 0 ∧ s.ppu.mode = .oamScan ∧ s.ppu.lcdc = 0x91 ∧ s.ppu.statEn = 0 ∧ s.ppu.scy = 0 ∧
      s.ppu.scx = 0 ∧ s.ppu.lyc = 0 ∧ s.ppu.bgp = 0xFC ∧ s.ppu.wy = 0 ∧ s.ppu.wx = 0) ∧
    (s.cart.ramEnable = false ∧ s.cart.bankLo = 0 ∧ s.cart.bankHi = 0 ∧ s.cart.bankMode = false ∧ s.cart.romBank3 = 0 ∧
      s.cart.sel = 0 ∧ s.cart.romBank5 = 1 ∧ s.cart.ramBank5 = 0 ∧ s.cart.clock = c.clock ∧ s.cart.xram = c.xram) ∧
    (mode = .mono →
      s.cpu.a = 0x01 ∧ s.cpu.flags.toByte = 0xB0 ∧ s.cpu.bc = 0x0013 ∧ s.cpu.de = 0x00D8 ∧ s.cpu.hl = 0x014D ∧
      s.timer.div16 = 0xABCC ∧ s.bus.dmaReg = 0xFF ∧ s.ppu.obp0 = 0xFF ∧ s.ppu.obp1 = 0xFF) ∧
    (mode = .color →
      s.cpu.a = 0x11 ∧ s.cpu.flags.toByte = 0x80 ∧ s.cpu.bc = 0x0000 ∧ s.cpu.de = 0xFF56 ∧ s.cpu.hl = 0x000D ∧
      s.timer.div16 = 0x1EA0 ∧ s.bus.dmaReg = 0x00 ∧
      s.bus.bcps = { idx := 0, autoinc := false } ∧ s.bus.ocps = { idx := 0, autoinc := false } ∧
      s.hdma.h1 = 0xFF ∧ s.hdma.h2 = 0xFF ∧ s.hdma.h3 = 0xFF ∧ s.hdma.h4 = 0xFF ∧ s.hdma.active = false ∧
      s.hdma.remaining = 0x7F))
end

