-- ==== Sys2Proof/Laws/Bits.lean ====
section
/-! SUPPORT. Laws of the bit-field helpers. -/

namespace Sys2Proof

@[simp] theorem hi_word (h l : Byte) : hi (word h l) = h := by
  apply BitVec.eq_of_getLsbD_eq
  intro i hi
  simp only [Sys2Proof.hi, word, BitVec.getLsbD_extractLsb', BitVec.getLsbD_append]
  simp [hi]

@[simp] theorem lo_word (h l : Byte) : lo (word h l) = l := by
  apply BitVec.eq_of_getLsbD_eq
  intro i hi
  simp only [lo, word, BitVec.getLsbD_extractLsb', BitVec.getLsbD_append]
  simp [hi]

@[simp] theorem word_hi_lo (v : Word) : word (hi v) (lo v) = v := by
  apply BitVec.eq_of_getLsbD_eq
  intro i hv
  simp only [hi, lo, word, BitVec.getLsbD_append, BitVec.getLsbD_extractLsb']
  by_cases h : i < 8
  · simp [h]
  · have h8 : i - 8 < 8 := by omega
    simp [h, h8, show 8 + (i - 8) = i by omega]

theorem word_toNat (h l : Byte) : (word h l).toNat = h.toNat * 256 + l.toNat := by
  rw [word, BitVec.toNat_append, ← Nat.shiftLeft_add_eq_or_of_lt l.isLt, Nat.shiftLeft_eq]

theorem hi_toNat (v : Word) : (hi v).toNat = v.toNat / 256 := by
  have h := v.isLt
  simp only [hi, BitVec.extractLsb'_toNat, Nat.shiftRight_eq_div_pow]
  omega

theorem lo_toNat (v : Word) : (lo v).toNat = v.toNat % 256 := by
  simp [lo, BitVec.extractLsb'_toNat]

end Sys2Proof
end

