-- ==== Sys2Proof/Laws/Memory.lean ====
section
/-! SUPPORT. The laws of a byte memory: read after write, and the canonical form. -/

namespace Sys2Proof.Machine

@[simp] theorem Memory.get?_nil (a : Nat) : Memory.get? [] a = none := rfl

@[simp] theorem Memory.get?_set_self (m : Memory) (a : Nat) (v : Byte) : (m.set a v).get? a = some v := by
  induction m with
  | nil => simp [Memory.set, Memory.get?]
  | cons x m ih =>
    obtain ⟨k, w⟩ := x
    simp only [Memory.set]
    split
    · simp [Memory.get?]
    · split
      · simp [Memory.get?]
      · simp only [Memory.get?, ih, ite_eq_right_iff]
        intro h; omega

theorem Memory.get?_set_of_ne (m : Memory) {a b : Nat} (v : Byte) (h : b ≠ a) : (m.set a v).get? b = m.get? b := by
  induction m with
  | nil => simp [Memory.set, Memory.get?, Ne.symm h]
  | cons x m ih =>
    obtain ⟨k, w⟩ := x
    simp only [Memory.set]
    split
    · simp [Memory.get?, Ne.symm h]
    · split
      · next h2 => subst h2; simp [Memory.get?, Ne.symm h]
      · simp [Memory.get?, ih]

theorem Memory.get?_set (m : Memory) (a b : Nat) (v : Byte) :
    (m.set a v).get? b = if b = a then some v else m.get? b := by
  by_cases h : b = a
  · subst h; simp
  · simp [h, Memory.get?_set_of_ne m v h]

/-- Every key of a memory after a store is an old key or the stored one. -/
theorem Memory.mem_set {m : Memory} {a : Nat} {v : Byte} {x : Host.Cell} (h : x ∈ m.set a v) : x ∈ m ∨ x.1 = a := by
  induction m with
  | nil => simp [Memory.set] at h; simp [h]
  | cons y m ih =>
    obtain ⟨k, w⟩ := y
    simp only [Memory.set] at h
    split at h
    · rcases List.mem_cons.1 h with rfl | h
      · exact .inr rfl
      · exact .inl h
    · split at h
      · rcases List.mem_cons.1 h with rfl | h
        · exact .inr rfl
        · exact .inl (List.mem_cons_of_mem _ h)
      · rcases List.mem_cons.1 h with rfl | h
        · exact .inl (List.mem_cons_self ..)
        · rcases ih h with h | h
          · exact .inl (List.mem_cons_of_mem _ h)
          · exact .inr h

/-- A store keeps the canonical form. -/
theorem Memory.set_wf {m : Memory} (h : m.wf) (a : Nat) (v : Byte) : (m.set a v).wf := by
  induction m with
  | nil => simp [Memory.set, Memory.wf]
  | cons x m ih =>
    obtain ⟨k, w⟩ := x
    obtain ⟨hk, hm⟩ := List.pairwise_cons.1 h
    simp only [Memory.set]
    split
    · next hlt =>
      refine List.pairwise_cons.2 ⟨?_, h⟩
      intro y hy
      rcases List.mem_cons.1 hy with rfl | hy
      · exact hlt
      · exact lt_trans hlt (hk y hy)
    · split
      · next he => subst he; exact List.pairwise_cons.2 ⟨hk, hm⟩
      · next h1 h2 =>
        refine List.pairwise_cons.2 ⟨?_, ih hm⟩
        intro y hy
        rcases Memory.mem_set hy with hy | hy
        · exact hk y hy
        · simp only [hy]; omega

theorem Memory.mem_ofBytes {vs : List Byte} {a : Nat} {x : Host.Cell} (h : x ∈ Memory.ofBytes a vs) : a ≤ x.1 := by
  induction vs generalizing a with
  | nil => simp [Memory.ofBytes] at h
  | cons v vs ih =>
    rcases List.mem_cons.1 h with rfl | h
    · exact le_refl _
    · exact le_trans (Nat.le_succ a) (ih h)

/-- An image is in canonical form. -/
theorem Memory.ofBytes_wf (a : Nat) (vs : List Byte) : (Memory.ofBytes a vs).wf := by
  induction vs generalizing a with
  | nil => exact List.Pairwise.nil
  | cons v vs ih =>
    refine List.pairwise_cons.2 ⟨fun y hy => ?_, ih (a + 1)⟩
    have := Memory.mem_ofBytes hy
    simp only; omega

/-- An overlay keeps the canonical form. -/
theorem Memory.overlay_wf {m : Memory} (h : m.wf) (a : Nat) (vs : List Byte) : (m.overlay a vs).wf := by
  induction vs generalizing m a with
  | nil => exact h
  | cons v vs ih => exact ih (Memory.set_wf h a v) (a + 1)

theorem Memory.get?_of_lt {m : Memory} {a : Nat} (h : ∀ x ∈ m, a < x.1) : m.get? a = none := by
  induction m with
  | nil => rfl
  | cons x m ih =>
    obtain ⟨k, w⟩ := x
    have hk : a < k := h (k, w) (List.mem_cons_self ..)
    simp only [Memory.get?, ih (fun y hy => h y (List.mem_cons_of_mem _ hy)), ite_eq_right_iff]
    intro he; omega

/-- Two canonical memories that read alike are the same data. -/
theorem Memory.ext_of_wf {m n : Memory} (hm : m.wf) (hn : n.wf) (h : ∀ a, m.get? a = n.get? a) : m = n := by
  induction m generalizing n with
  | nil =>
    cases n with
    | nil => rfl
    | cons y n => obtain ⟨k, w⟩ := y; simpa [Memory.get?] using h k
  | cons x m ih =>
    obtain ⟨k, w⟩ := x
    obtain ⟨hk, hm'⟩ := List.pairwise_cons.1 hm
    cases n with
    | nil => simpa [Memory.get?] using h k
    | cons y n =>
      obtain ⟨j, u⟩ := y
      obtain ⟨hj, hn'⟩ := List.pairwise_cons.1 hn
      have hkj : k = j := by
        rcases Nat.lt_trichotomy k j with hlt | he | hlt
        · have h1 := h k
          rw [Memory.get?_of_lt (m := (j, u) :: n) (fun z hz => by
            rcases List.mem_cons.1 hz with rfl | hz
            · exact hlt
            · exact lt_trans hlt (hj z hz))] at h1
          simp [Memory.get?] at h1
        · exact he
        · have h1 := h j
          rw [Memory.get?_of_lt (m := (k, w) :: m) (fun z hz => by
            rcases List.mem_cons.1 hz with rfl | hz
            · exact hlt
            · exact lt_trans hlt (hk z hz))] at h1
          simp [Memory.get?] at h1
      subst hkj
      have hwu : w = u := by simpa [Memory.get?] using h k
      subst hwu
      congr 1
      refine ih hm' hn' fun a => ?_
      by_cases ha : k = a
      · subst ha
        rw [Memory.get?_of_lt hk, Memory.get?_of_lt hj]
      · simpa [Memory.get?, ha] using h a

end Sys2Proof.Machine
end

