-- ==== Sys2Proof/Laws/Ops.lean ====
section
/-! SUPPORT. For each operation of the clocked units, the copies and the machine cycle, what it leaves unchanged, said once:
`still` erases what the clocked units may move, and every operation keeps what is left. -/

namespace Sys2Proof.Machine

/-- A state with everything erased that a machine cycle may change: the timer, IF, the sound unit, the pixel port, video RAM,
the VRAM transfer, the latched status line, the cartridge clock and the two counters of the model. -/
def State.still (s : State) : State :=
  { s with
    timer := State.reset.timer, irq.ifr := 0, sound := State.reset.sound, ppu := State.reset.ppu, ram.vram := []
    hdma := State.reset.hdma, bus.statLine := false, cart.clock := State.reset.cart.clock, freeCount := 0, cycles := 0 }

/-- What a still state keeps, equal still states share. -/
theorem still_congr {α : Type} (f : State → α) {s t : State} (h : t.still = s.still) (hf : ∀ x : State, f x.still = f x) :
    f t = f s := by rw [← hf t, h, hf s]

theorem requestIf_ie (q : Irq) (b : Bool) (l : Line) : (q.requestIf b l).ie = q.ie := by cases b <;> rfl

theorem requestIf_still (b : Bool) (l : Line) (s : State) : { s with irq := s.irq.requestIf b l }.still = s.still := by
  cases b <;> rfl

theorem timerAdvance_still (n : Nat) (s : State) : (timerAdvance n s).still = s.still := by
  have h : (timerAdvance n s).still = { s with irq := s.irq.requestIf s.timer.reloadPending .timer }.still := rfl
  rw [h, requestIf_still]

theorem divReset_still (s : State) : (divReset s).still = s.still := rfl

theorem soundAdvance_still (t : Nat) (s : State) : (soundAdvance t s).still = s.still := rfl

theorem statUpdate_still (s : State) : (statUpdate s).still = s.still := by
  have h : (statUpdate s).still = { s with irq := s.irq.requestIf (!s.bus.statLine && s.ppu.statCond) .stat }.still := rfl
  rw [h, requestIf_still]

theorem copyToVram_still (n : Nat) (src dst : Word) (s : State) : (copyToVram n src dst s).still = s.still := by
  induction n generalizing src dst s with
  | zero => rfl
  | succ n ih => rw [copyToVram, ih]; rfl

theorem copyBlocks_still (n : Nat) (src dst : Word) (s : State) : (copyBlocks n src dst s).still = s.still := by
  induction n generalizing src dst s with
  | zero => rfl
  | succ n ih => rw [copyBlocks, ih, copyBlock, copyToVram_still]

theorem hblankBlock_still (s : State) : (hblankBlock s).still = s.still := by
  unfold hblankBlock
  split
  · exact copyToVram_still 16 s.hdma.src s.hdma.dst s
  · rfl

theorem pixelEvents_still (e : Events) (s : State) : (pixelEvents e s).still = s.still := by
  have h := requestIf_still e.vblankEntry .vblank s
  unfold pixelEvents
  dsimp only
  split <;> split
  · rw [statUpdate_still, hblankBlock_still, h]
  · rw [statUpdate_still, h]
  · rw [hblankBlock_still, h]
  · exact h

theorem pixelAdvance_still (t : Nat) (s : State) : (pixelAdvance t s).still = s.still := by
  unfold pixelAdvance
  exact pixelEvents_still _ _

theorem cartAdvance_still (t : Nat) (s : State) : (cartAdvance t s).still = s.still := by
  unfold cartAdvance Cart.advance
  split <;> rfl

/-- EVERYTHING A MACHINE CYCLE LEAVES UNCHANGED. -/
theorem cycle_still (s : State) : (cycle s).still = s.still := by
  have h : (cycle s).still = (cartAdvance (ticksPerCycle s.cpu.speed) (pixelAdvance (ticksPerCycle s.cpu.speed)
    (soundAdvance (ticksPerCycle s.cpu.speed) (timerAdvance timerTicks s)))).still := rfl
  rw [h, cartAdvance_still, pixelAdvance_still, soundAdvance_still, timerAdvance_still]

/-! ## Field by field -/

@[simp] theorem cycle_cpu (s : State) : (cycle s).cpu = s.cpu :=
  still_congr State.cpu (cycle_still s) fun _ => rfl
@[simp] theorem cycle_joypad (s : State) : (cycle s).joypad = s.joypad :=
  still_congr State.joypad (cycle_still s) fun _ => rfl
@[simp] theorem cycle_serial (s : State) : (cycle s).serial = s.serial :=
  still_congr State.serial (cycle_still s) fun _ => rfl
@[simp] theorem cycle_cfg (s : State) : (cycle s).cfg = s.cfg :=
  still_congr State.cfg (cycle_still s) fun _ => rfl
@[simp] theorem cycle_ie (s : State) : (cycle s).irq.ie = s.irq.ie :=
  still_congr (·.irq.ie) (cycle_still s) fun _ => rfl
@[simp] theorem cycle_wram (s : State) : (cycle s).ram.wram = s.ram.wram :=
  still_congr (·.ram.wram) (cycle_still s) fun _ => rfl
@[simp] theorem cycle_oam (s : State) : (cycle s).ram.oam = s.ram.oam :=
  still_congr (·.ram.oam) (cycle_still s) fun _ => rfl
@[simp] theorem cycle_hram (s : State) : (cycle s).ram.hram = s.ram.hram :=
  still_congr (·.ram.hram) (cycle_still s) fun _ => rfl
@[simp] theorem cycle_wave (s : State) : (cycle s).ram.wave = s.ram.wave :=
  still_congr (·.ram.wave) (cycle_still s) fun _ => rfl
@[simp] theorem cycle_bgpal (s : State) : (cycle s).ram.bgpal = s.ram.bgpal :=
  still_congr (·.ram.bgpal) (cycle_still s) fun _ => rfl
@[simp] theorem cycle_obpal (s : State) : (cycle s).ram.obpal = s.ram.obpal :=
  still_congr (·.ram.obpal) (cycle_still s) fun _ => rfl
@[simp] theorem cycle_svbk (s : State) : (cycle s).bus.svbk = s.bus.svbk :=
  still_congr (·.bus.svbk) (cycle_still s) fun _ => rfl
@[simp] theorem cycle_vbk (s : State) : (cycle s).bus.vbk = s.bus.vbk :=
  still_congr (·.bus.vbk) (cycle_still s) fun _ => rfl
@[simp] theorem cycle_dmaReg (s : State) : (cycle s).bus.dmaReg = s.bus.dmaReg :=
  still_congr (·.bus.dmaReg) (cycle_still s) fun _ => rfl
@[simp] theorem cycle_bcps (s : State) : (cycle s).bus.bcps = s.bus.bcps :=
  still_congr (·.bus.bcps) (cycle_still s) fun _ => rfl
@[simp] theorem cycle_ocps (s : State) : (cycle s).bus.ocps = s.bus.ocps :=
  still_congr (·.bus.ocps) (cycle_still s) fun _ => rfl

/-- The cartridge but for its clock. -/
theorem cycle_cart (s : State) : { (cycle s).cart with clock := s.cart.clock } = s.cart :=
  still_congr (fun t : State => { t.cart with clock := s.cart.clock }) (cycle_still s) fun _ => rfl

/-- A copy to video RAM changes video RAM only. -/
theorem copyToVram_eq (n : Nat) (src dst : Word) (s : State) :
    copyToVram n src dst s = { s with ram.vram := (copyToVram n src dst s).ram.vram } := by
  induction n generalizing src dst s with
  | zero => rfl
  | succ n ih => rw [copyToVram, ih]

/-- The end-of-horizontal-blank block changes video RAM and the transfer only. -/
theorem hblankBlock_eq (s : State) :
    hblankBlock s = { s with ram.vram := (hblankBlock s).ram.vram, hdma := (hblankBlock s).hdma } := by
  unfold hblankBlock
  split
  · rw [copyBlock, copyToVram_eq]
  · rfl

theorem pixelEvents_cycles (e : Events) (s : State) : (pixelEvents e s).cycles = s.cycles := by
  have h (t : State) : (hblankBlock t).cycles = t.cycles := by rw [hblankBlock_eq]
  unfold pixelEvents
  dsimp only
  split <;> split <;> simp only [statUpdate, h]

/-- The ghost counter counts the machine cycles (60_exceptions.md R402). -/
@[simp] theorem cycle_cycles (s : State) : (cycle s).cycles = s.cycles + 1 := by
  have e : (cycle s).cycles = (pixelEvents (s.ppu.advance (ticksPerCycle s.cpu.speed)).2
    { soundAdvance (ticksPerCycle s.cpu.speed) (timerAdvance timerTicks s) with
      ppu := (s.ppu.advance (ticksPerCycle s.cpu.speed)).1 }).cycles + 1 := rfl
  rw [e, pixelEvents_cycles]
  rfl

@[simp] theorem internal_eq (s : State) : internal s = cycle s := rfl

/-! ## Video RAM and the transfer, while no transfer is armed -/

/-- No transfer armed, and what a transfer moves. -/
def State.vramSide (s : State) : Memory × Hdma := (s.ram.vram, s.hdma)

theorem pixelEvents_vram (e : Events) {s : State} (h : s.hdma.active = false) : (pixelEvents e s).vramSide = s.vramSide := by
  unfold pixelEvents hblankBlock
  simp only [h, Bool.false_eq_true, if_false, ite_self]
  split <;> rfl

theorem cycle_vramSide {s : State} (h : s.hdma.active = false) : (cycle s).vramSide = s.vramSide := by
  have hc : ∀ t u, (cartAdvance t u).vramSide = u.vramSide := fun t u => by unfold cartAdvance; rfl
  have e : (cycle s).vramSide = (cartAdvance (ticksPerCycle s.cpu.speed) (pixelAdvance (ticksPerCycle s.cpu.speed)
    (soundAdvance (ticksPerCycle s.cpu.speed) (timerAdvance timerTicks s)))).vramSide := rfl
  rw [e, hc]
  unfold pixelAdvance
  exact pixelEvents_vram _ h

theorem cycle_vram {s : State} (h : s.hdma.active = false) : (cycle s).ram.vram = s.ram.vram :=
  congrArg Prod.fst (cycle_vramSide h)

theorem cycle_hdma {s : State} (h : s.hdma.active = false) : (cycle s).hdma = s.hdma :=
  congrArg Prod.snd (cycle_vramSide h)

/-! ## What the pixel port's ticks leave unchanged -/

/-- A tick moves the position and the mode; the LCD registers stay. -/
theorem Ppu.tick_regs (p : Ppu) : { p.tick.1 with mode := p.mode, dot := p.dot, ly := p.ly } = p := by
  unfold Ppu.tick Ppu.endLine
  dsimp only
  repeat' split
  all_goals rfl

theorem Ppu.advance_regs (n : Nat) (p : Ppu) : { (p.advance n).1 with mode := p.mode, dot := p.dot, ly := p.ly } = p := by
  induction n generalizing p with
  | zero => rfl
  | succ n ih =>
    have b := p.tick_regs
    rw [← ih p.tick.1] at b
    exact b

/-- With no transfer armed the end of a horizontal blank copies nothing. -/
theorem hblankBlock_idle {s : State} (h : s.hdma.active = false) : hblankBlock s = s := by simp [hblankBlock, h]

end Sys2Proof.Machine
end

