-- ==== Sys2Proof/Laws/Bus.lean ====
section
/-! SUPPORT. The laws of the bus: what a write leaves unchanged, and read after write in plain memory. -/

namespace Sys2Proof.Machine

/-! ## What a bus write leaves unchanged -/

/-- A state with everything erased that a bus write may change. What is left: the processor but for `speedArmed`, the button
state, what the launch fixed of the cartridge, the parameters and the two counters of the model. -/
def State.settled (s : State) : State :=
  { s with
    cpu.speedArmed := false, irq := State.reset.irq, joypad.sel := 0, joypad.prev := 0, serial := State.reset.serial
    timer := State.reset.timer, ram := State.reset.ram, bus := State.reset.bus, hdma := State.reset.hdma
    sound := State.reset.sound, ppu := State.reset.ppu
    cart := Cart.reset s.cart.kind s.cart.romBanks s.cart.ramBanks s.cart.hasClock s.cart.battery Clock.zero s.cart.rom [] }

theorem settled_congr {α : Type} (f : State → α) {s t : State} (h : t.settled = s.settled)
    (hf : ∀ x : State, f x.settled = f x) : f t = f s := by rw [← hf t, h, hf s]

/-- What a machine cycle keeps includes what a bus write keeps, but for the two counters. -/
theorem settled_of_still {s t : State} (h : t.still = s.still) :
    { t with cycles := 0, freeCount := 0 }.settled = { s with cycles := 0, freeCount := 0 }.settled :=
  still_congr (fun x : State => { x with cycles := 0, freeCount := 0 }.settled) h fun _ => rfl

/-- What the launch fixed of a cartridge. -/
def Cart.fixed (c : Cart) : Cart :=
  Cart.reset c.kind c.romBanks c.ramBanks c.hasClock c.battery Clock.zero c.rom []

theorem Cart.writeReg_fixed (c : Cart) (a : Word) (v : Byte) : (c.writeReg a v).fixed = c.fixed := by
  unfold Cart.writeReg
  dsimp only
  generalize a.toNat / 0x2000 = q
  obtain ⟨_, kind, _⟩ := c
  cases kind <;> rcases q with _ | _ | _ | q <;> first | rfl | (by_cases h : a.toNat < 0x3000 <;> simp [h, Cart.fixed])

theorem Cart.write_fixed (c : Cart) (a : Word) (v : Byte) : (c.write a v).fixed = c.fixed := by
  unfold Cart.write
  split
  · exact c.writeReg_fixed a v
  · split <;> rfl

theorem cartWrite_settled (a : Word) (v : Byte) (s : State) : { s with cart := s.cart.write a v }.settled = s.settled := by
  have h := s.cart.write_fixed a v
  have e : ∀ c : Cart, { s with cart := c }.settled =
    { s.settled with cart := c.fixed } := fun _ => rfl
  rw [e, h]; rfl

theorem copyToOam_settled (n i : Nat) (src : Word) (s : State) : (copyToOam n i src s).settled = s.settled := by
  induction n generalizing i src s with
  | zero => rfl
  | succ n ih => rw [copyToOam, ih]; rfl

theorem copyToVram_settled (n : Nat) (src dst : Word) (s : State) : (copyToVram n src dst s).settled = s.settled := by
  induction n generalizing src dst s with
  | zero => rfl
  | succ n ih => rw [copyToVram, ih]; rfl

theorem copyBlocks_settled (n : Nat) (src dst : Word) (s : State) : (copyBlocks n src dst s).settled = s.settled := by
  induction n generalizing src dst s with
  | zero => rfl
  | succ n ih => rw [copyBlocks, ih, copyBlock, copyToVram_settled]

theorem writeHdma5_settled (v : Byte) (s : State) : (writeHdma5 v s).settled = s.settled := by
  unfold writeHdma5
  split
  · rfl
  · split
    · exact copyBlocks_settled _ _ _ s
    · rfl

theorem colorRegWrite_settled (off : Nat) (v : Byte) (s : State) : (colorRegWrite off v s).settled = s.settled := by
  unfold colorRegWrite
  split
  all_goals first | rfl | exact writeHdma5_settled v s

theorem colorWrite_settled (off : Nat) (v : Byte) (s : State) : (colorWrite off v s).settled = s.settled := by
  unfold colorWrite
  split
  · rfl
  · exact colorRegWrite_settled off v s

theorem ioWrite_settled (off : Nat) (v : Byte) (s : State) : (ioWrite off v s).settled = s.settled := by
  unfold ioWrite
  split
  · rfl
  split
  · rfl
  split
  · exact copyToOam_settled 160 0 (word v 0x00) { s with bus.dmaReg := v }
  split
  · unfold lcdWrite; split <;> rfl
  split
  all_goals first | exact colorWrite_settled _ _ _ | rfl

/-- EVERYTHING A BUS WRITE LEAVES UNCHANGED. -/
theorem busWrite_settled (a : Word) (v : Byte) (s : State) : (busWrite a v s).settled = s.settled := by
  unfold busWrite
  split
  all_goals first | exact ioWrite_settled _ v s | exact cartWrite_settled a v s | rfl

@[simp] theorem busWrite_cfg (a : Word) (v : Byte) (s : State) : (busWrite a v s).cfg = s.cfg :=
  settled_congr State.cfg (busWrite_settled a v s) fun _ => rfl
@[simp] theorem busWrite_cycles (a : Word) (v : Byte) (s : State) : (busWrite a v s).cycles = s.cycles :=
  settled_congr State.cycles (busWrite_settled a v s) fun _ => rfl
@[simp] theorem busWrite_pc (a : Word) (v : Byte) (s : State) : (busWrite a v s).cpu.pc = s.cpu.pc :=
  settled_congr (·.cpu.pc) (busWrite_settled a v s) fun _ => rfl
@[simp] theorem busWrite_sp (a : Word) (v : Byte) (s : State) : (busWrite a v s).cpu.sp = s.cpu.sp :=
  settled_congr (·.cpu.sp) (busWrite_settled a v s) fun _ => rfl
@[simp] theorem busWrite_flags (a : Word) (v : Byte) (s : State) : (busWrite a v s).cpu.flags = s.cpu.flags :=
  settled_congr (·.cpu.flags) (busWrite_settled a v s) fun _ => rfl
@[simp] theorem busWrite_h (a : Word) (v : Byte) (s : State) : (busWrite a v s).cpu.h = s.cpu.h :=
  settled_congr (·.cpu.h) (busWrite_settled a v s) fun _ => rfl
@[simp] theorem busWrite_l (a : Word) (v : Byte) (s : State) : (busWrite a v s).cpu.l = s.cpu.l :=
  settled_congr (·.cpu.l) (busWrite_settled a v s) fun _ => rfl

/-- The processor after a bus write: only `speedArmed` (KEY1) can have changed. -/
theorem busWrite_cpu (a : Word) (v : Byte) (s : State) :
    { (busWrite a v s).cpu with speedArmed := s.cpu.speedArmed } = s.cpu :=
  settled_congr (fun t : State => { t.cpu with speedArmed := s.cpu.speedArmed }) (busWrite_settled a v s) fun _ => rfl

/-! ## Plain memory: the cell behind an address -/

/-- The memory of the state that a store names. -/
def State.memoryOf (s : State) : Store → Memory
  | .rom => s.cart.rom
  | .xram => s.cart.xram
  | .vram => s.ram.vram
  | .wram => s.ram.wram
  | .oam => s.ram.oam
  | .hram => s.ram.hram
  | .wave => s.ram.wave
  | .bgpal => s.ram.bgpal
  | .obpal => s.ram.obpal

/-- The state with the byte of one cell replaced. -/
def State.putCell (s : State) (v : Byte) : Store × Nat → State
  | (.rom, k) => { s with cart.rom := s.cart.rom.set k v }
  | (.xram, k) => { s with cart.xram := s.cart.xram.set k v }
  | (.vram, k) => { s with ram.vram := s.ram.vram.set k v }
  | (.wram, k) => { s with ram.wram := s.ram.wram.set k v }
  | (.oam, k) => { s with ram.oam := s.ram.oam.set k v }
  | (.hram, k) => { s with ram.hram := s.ram.hram.set k v }
  | (.wave, k) => { s with ram.wave := s.ram.wave.set k v }
  | (.bgpal, k) => { s with ram.bgpal := s.ram.bgpal.set k v }
  | (.obpal, k) => { s with ram.obpal := s.ram.obpal.set k v }

theorem toNat_of_regionOf_rom {a : Word} (h : regionOf a = .rom) : a.toNat < 0x8000 := by
  unfold regionOf at h
  dsimp only at h
  repeat' split at h
  all_goals first | assumption | cases h

theorem toNat_of_regionOf_xram {a : Word} (h : regionOf a = .xram) : 0x8000 ≤ a.toNat := by
  unfold regionOf at h
  dsimp only at h
  repeat' split at h
  all_goals first | omega | cases h

/-- A read of an address with a cell is a read of that cell. -/
theorem busRead_of_place {s : State} {a : Word} {c : Store × Nat} (h : s.place a = some c) :
    busRead s a = cell c.1 (s.memoryOf c.1) c.2 := by
  unfold State.place at h
  unfold busRead
  split at h
  case h_1 hr => cases h; simp [hr, Cart.read, toNat_of_regionOf_rom hr, State.memoryOf]
  case h_3 hr =>
    have h8 := toNat_of_regionOf_xram hr
    split at h
    · next h1 h2 => cases h; simp [hr, Cart.read, show ¬ a.toNat < 0x8000 by omega, h1, h2, State.memoryOf]
    · cases h
  all_goals first | (cases h; done) | (cases h; rename_i hr; simp [hr, State.memoryOf])

/-- A write to an address with a writable cell replaces the byte of that cell and does nothing else. -/
theorem busWrite_of_place {s : State} {a : Word} {c : Store × Nat} (v : Byte) (h : s.place a = some c)
    (hc : c.1 ≠ .rom) : busWrite a v s = s.putCell v c := by
  unfold State.place at h
  unfold busWrite
  split at h
  case h_1 => cases h; exact absurd rfl hc
  case h_3 hr =>
    have h8 := toNat_of_regionOf_xram hr
    split at h
    · next h1 h2 => cases h; simp [hr, Cart.write, show ¬ a.toNat < 0x8000 by omega, h1, h2, State.putCell]
    · cases h
  all_goals first | (cases h; done) | (cases h; rename_i hr; simp [hr, State.putCell])

/-- Replacing the byte of a cell moves no cell. -/
@[simp] theorem place_putCell (s : State) (v : Byte) (c : Store × Nat) (b : Word) : (s.putCell v c).place b = s.place b := by
  obtain ⟨st, k⟩ := c
  cases st <;> rfl

@[simp] theorem putCell_cpu (s : State) (v : Byte) (c : Store × Nat) : (s.putCell v c).cpu = s.cpu := by
  obtain ⟨st, k⟩ := c
  cases st <;> rfl

@[simp] theorem putCell_hdma (s : State) (v : Byte) (c : Store × Nat) : (s.putCell v c).hdma = s.hdma := by
  obtain ⟨st, k⟩ := c
  cases st <;> rfl

/-- The cell of an address, after the byte of a cell has been replaced. -/
theorem memoryOf_putCell (s : State) (v : Byte) (c : Store × Nat) (st : Store) :
    (s.putCell v c).memoryOf st = if st = c.1 then (s.memoryOf st).set c.2 v else s.memoryOf st := by
  obtain ⟨st', k⟩ := c
  cases st <;> cases st' <;> rfl

end Sys2Proof.Machine
end

