-- ==== Sys2Proof/Laws/Canonical.lean ====
section
/-! SUPPORT. Every memory operation keeps every memory in its canonical form. -/

namespace Sys2Proof.Machine

/-- The memories of a state, and nothing else of it. -/
def State.memories (s : State) : Ram × Memory × Memory := (s.ram, s.cart.rom, s.cart.xram)

theorem State.MemoryCanonical.congr {s t : State} (hs : s.MemoryCanonical) (h : t.memories = s.memories) : t.MemoryCanonical := by
  have h1 : t.ram = s.ram := congrArg Prod.fst h
  have h2 : t.cart.rom = s.cart.rom := congrArg (fun x => x.2.1) h
  have h3 : t.cart.xram = s.cart.xram := congrArg (fun x => x.2.2) h
  exact ⟨h1 ▸ hs.ram, h2 ▸ hs.rom, h3 ▸ hs.xram⟩

/-- Reset memory lists nothing. -/
theorem reset_canonical : State.reset.MemoryCanonical :=
  ⟨⟨.nil, .nil, .nil, .nil, .nil, .nil, .nil⟩, .nil, .nil⟩

theorem putCell_canonical {s : State} (hs : s.MemoryCanonical) (v : Byte) (c : Store × Nat) :
    (s.putCell v c).MemoryCanonical := by
  obtain ⟨st, k⟩ := c
  obtain ⟨⟨h1, h2, h3, h4, h5, h6, h7⟩, h8, h9⟩ := hs
  cases st <;> exact
    ⟨⟨by first | exact h1 | exact Memory.set_wf h1 k v, by first | exact h2 | exact Memory.set_wf h2 k v,
      by first | exact h3 | exact Memory.set_wf h3 k v, by first | exact h4 | exact Memory.set_wf h4 k v,
      by first | exact h5 | exact Memory.set_wf h5 k v, by first | exact h6 | exact Memory.set_wf h6 k v,
      by first | exact h7 | exact Memory.set_wf h7 k v⟩,
      by first | exact h8 | exact Memory.set_wf h8 k v, by first | exact h9 | exact Memory.set_wf h9 k v⟩

theorem copyToOam_canonical {s : State} (hs : s.MemoryCanonical) (n i : Nat) (src : Word) :
    (copyToOam n i src s).MemoryCanonical := by
  induction n generalizing i src s with
  | zero => exact hs
  | succ n ih => exact ih (putCell_canonical hs _ (.oam, i)) _ _

theorem copyToVram_canonical {s : State} (hs : s.MemoryCanonical) (n : Nat) (src dst : Word) :
    (copyToVram n src dst s).MemoryCanonical := by
  induction n generalizing src dst s with
  | zero => exact hs
  | succ n ih => exact ih (putCell_canonical hs _ (.vram, _)) _ _

theorem copyBlocks_canonical {s : State} (hs : s.MemoryCanonical) (n : Nat) (src dst : Word) :
    (copyBlocks n src dst s).MemoryCanonical := by
  induction n generalizing src dst s with
  | zero => exact hs
  | succ n ih => exact ih (copyToVram_canonical hs 16 src dst) _ _

theorem hblankBlock_canonical {s : State} (hs : s.MemoryCanonical) : (hblankBlock s).MemoryCanonical := by
  unfold hblankBlock
  split
  · exact (copyToVram_canonical hs 16 s.hdma.src s.hdma.dst).congr rfl
  · exact hs

theorem writeHdma5_canonical {s : State} (hs : s.MemoryCanonical) (v : Byte) : (writeHdma5 v s).MemoryCanonical := by
  unfold writeHdma5
  split
  · exact hs.congr rfl
  · split
    · exact (copyBlocks_canonical hs _ _ _).congr rfl
    · exact hs.congr rfl

theorem colorRegWrite_canonical {s : State} (hs : s.MemoryCanonical) (off : Nat) (v : Byte) :
    (colorRegWrite off v s).MemoryCanonical := by
  unfold colorRegWrite
  split
  case h_7 => exact writeHdma5_canonical hs v
  case h_9 => exact (putCell_canonical hs v (.bgpal, s.bus.bcps.idx.toNat)).congr rfl
  case h_11 => exact (putCell_canonical hs v (.obpal, s.bus.ocps.idx.toNat)).congr rfl
  all_goals exact hs.congr rfl

theorem ioWrite_canonical {s : State} (hs : s.MemoryCanonical) (off : Nat) (v : Byte) :
    (ioWrite off v s).MemoryCanonical := by
  unfold ioWrite
  split
  · exact hs.congr rfl
  split
  · exact putCell_canonical hs v (.wave, off - 0x30)
  split
  · have h : { s with bus.dmaReg := v }.MemoryCanonical := hs.congr rfl
    unfold oamDma
    exact copyToOam_canonical h 160 0 (word v 0x00)
  split
  · unfold lcdWrite
    dsimp only
    split <;> exact hs.congr rfl
  split
  case h_9 =>
    unfold colorWrite
    split
    · exact hs
    · exact colorRegWrite_canonical hs off v
  all_goals exact hs.congr rfl

theorem cartWrite_canonical {s : State} (hs : s.MemoryCanonical) (a : Word) (v : Byte) :
    { s with cart := s.cart.write a v }.MemoryCanonical := by
  have hreg : (s.cart.writeReg a v).rom = s.cart.rom ∧ (s.cart.writeReg a v).xram = s.cart.xram := by
    unfold Cart.writeReg
    dsimp only
    split <;> first | exact ⟨rfl, rfl⟩ | (split <;> exact ⟨rfl, rfl⟩)
  refine ⟨hs.ram, ?_, ?_⟩
  · show (s.cart.write a v).rom.wf
    unfold Cart.write
    split
    · rw [hreg.1]; exact hs.rom
    · split <;> exact hs.rom
  · show (s.cart.write a v).xram.wf
    unfold Cart.write
    split
    · rw [hreg.2]; exact hs.xram
    · split
      · exact hs.xram
      · exact Memory.set_wf hs.xram _ v
      · exact hs.xram

/-- A BUS WRITE KEEPS THE CANONICAL FORM. -/
theorem busWrite_canonical {s : State} (hs : s.MemoryCanonical) (a : Word) (v : Byte) :
    (busWrite a v s).MemoryCanonical := by
  unfold busWrite
  split
  · exact cartWrite_canonical hs a v
  · exact putCell_canonical hs v (.vram, _)
  · exact cartWrite_canonical hs a v
  · exact putCell_canonical hs v (.wram, _)
  · exact putCell_canonical hs v (.wram, _)
  · exact putCell_canonical hs v (.wram, _)
  · exact putCell_canonical hs v (.oam, _)
  · exact hs
  · exact ioWrite_canonical hs _ v
  · exact putCell_canonical hs v (.hram, _)
  · exact hs.congr rfl

theorem pixelEvents_canonical {s : State} (hs : s.MemoryCanonical) (e : Events) : (pixelEvents e s).MemoryCanonical := by
  have h0 : { s with irq := s.irq.requestIf e.vblankEntry .vblank }.MemoryCanonical := hs.congr rfl
  unfold pixelEvents
  dsimp only
  split <;> split
  · exact (hblankBlock_canonical h0).congr rfl
  · exact h0.congr rfl
  · exact hblankBlock_canonical h0
  · exact h0

theorem cartAdvance_canonical {s : State} (hs : s.MemoryCanonical) (t : Nat) : (cartAdvance t s).MemoryCanonical := by
  refine hs.congr ?_
  unfold cartAdvance Cart.advance
  split <;> rfl

theorem pixelAdvance_canonical {s : State} (hs : s.MemoryCanonical) (t : Nat) : (pixelAdvance t s).MemoryCanonical := by
  have h : { s with ppu := (s.ppu.advance t).1 }.MemoryCanonical := hs.congr rfl
  exact pixelEvents_canonical h (s.ppu.advance t).2

theorem soundAdvance_canonical {s : State} (hs : s.MemoryCanonical) (t : Nat) : (soundAdvance t s).MemoryCanonical :=
  hs.congr rfl

theorem timerAdvance_canonical {s : State} (hs : s.MemoryCanonical) (t : Nat) : (timerAdvance t s).MemoryCanonical :=
  hs.congr rfl

/-- A MACHINE CYCLE KEEPS THE CANONICAL FORM. -/
theorem cycle_canonical {s : State} (hs : s.MemoryCanonical) : (cycle s).MemoryCanonical :=
  (cartAdvance_canonical (pixelAdvance_canonical (soundAdvance_canonical (timerAdvance_canonical hs timerTicks)
    (ticksPerCycle s.cpu.speed)) (ticksPerCycle s.cpu.speed)) (ticksPerCycle s.cpu.speed)).congr rfl

theorem poke_canonical {s : State} (hs : s.MemoryCanonical) (a : Word) (v : Byte) : (poke a v s).MemoryCanonical := by
  unfold poke
  split
  · exact putCell_canonical hs v (.rom, _)
  · exact hs
  · exact hs
  · exact busWrite_canonical hs a v

/-- Placing bytes from outside keeps the canonical form. -/
theorem pokeList_canonical {s : State} (hs : s.MemoryCanonical) (a : Word) (vs : List Byte) :
    (pokeList a vs s).MemoryCanonical := by
  induction vs generalizing a s with
  | nil => exact hs
  | cons v vs ih => exact ih (poke_canonical hs a v) _

end Sys2Proof.Machine
end

