-- ==== Sys2Proof/Laws/Sound.lean ====
section
/-! SUPPORT. The laws of the sound unit's clocks and of its power: what each can do, said once. -/

namespace Sys2Proof.Machine

/-! ## Fields of NRk2 -/

@[simp] theorem envelopeOf_up (v : Byte) : (envelopeOf v).up = v.getLsbD 3 := rfl

@[simp] theorem envelopeOf_period (v : Byte) : (envelopeOf v).period.toNat = v.toNat % 8 := by
  revert v
  decide

@[simp] theorem orEight_envPeriod (v : Byte) :
    (orEight (envPeriod v).toNat).toNat = if v.toNat % 8 = 0 then 8 else v.toNat % 8 := by
  revert v
  decide

/-- The eleven bits of `freq`, as a number. -/
theorem freq_toNat (nrk3 nrk4 : Byte) : (freq nrk3 nrk4).toNat = 256 * (nrk4.toNat % 8) + nrk3.toNat := by
  have h : ∀ v : Byte, (v.extractLsb' 0 3).toNat = v.toNat % 8 := by decide
  have := nrk3.isLt
  rw [freq, BitVec.toNat_append, h, ← Nat.shiftLeft_add_eq_or_of_lt this, Nat.shiftLeft_eq]
  omega

/-! ## The envelope clock (R504) -/

theorem envClock_idle {env : Envelope} (h : env.period = 0) (v t : BitVec 4) : envClock env v t = (v, t) := if_pos h

/-- The two things that an envelope with a period can do: count, or reload and move the volume. -/
theorem envClock_cases {env : Envelope} (h : env.period ≠ 0) (v t : BitVec 4) :
    (2 ≤ t.toNat ∧ envClock env v t = (v, t - 1)) ∨
    (t.toNat ≤ 1 ∧ (envClock env v t).2.toNat = env.period.toNat ∧
      (envClock env v t).1.toNat = if env.up then min 15 (v.toNat + 1) else v.toNat - 1) := by
  obtain ⟨up, period⟩ := env
  revert up period v t
  decide

/-! ## The length clock (R501) -/

/-- A length clock does nothing, or counts down and disables the channel at 0. -/
theorem lengthClock_cases (nrk4 : Byte) (length : Nat) (enabled : Bool) :
    (¬ (lengthEnable nrk4 = true ∧ 0 < length) ∧ lengthClock nrk4 length enabled = (length, enabled)) ∨
    ((lengthEnable nrk4 = true ∧ 0 < length) ∧
      lengthClock nrk4 length enabled = (length - 1, enabled && decide (length - 1 ≠ 0))) := by
  unfold lengthClock
  by_cases h : lengthEnable nrk4 = true ∧ 0 < length
  · exact .inr ⟨h, if_pos (by simp [h.1, h.2])⟩
  · exact .inl ⟨h, if_neg (by simpa using h)⟩

/-! ## Power (R488) -/

@[simp] theorem powerOff_power (s : Sound) : s.powerOff.power = false := rfl
@[simp] theorem powerOff_sweep (s : Sound) : s.powerOff.sweep = s.sweep := rfl
@[simp] theorem powerOff_fsStep (s : Sound) : s.powerOff.fsStep = s.fsStep := rfl
@[simp] theorem powerOff_out (s : Sound) : s.powerOff.out = s.out := rfl
@[simp] theorem powerOn_power (s : Sound) : s.powerOn.power = true := rfl
@[simp] theorem powerOn_regs (s : Sound) : s.powerOn.regs = s.regs := rfl
@[simp] theorem powerOn_sweep (s : Sound) : s.powerOn.sweep = s.sweep := rfl
@[simp] theorem powerOn_out (s : Sound) : s.powerOn.out = s.out := rfl

end Sys2Proof.Machine
end

