-- ==== Sys2Proof/Laws/State.lean ====
section
/-! SUPPORT. One lemma per field per update, so that no proof unfolds a record update; and read after write of registers. -/

namespace Sys2Proof.Machine

/-! ## Updates of the processor change the processor only -/

@[simp] theorem setReg_cpu (r : Reg8) (v : Byte) (s : State) : (setReg r v s).cpu = s.cpu.set r v := rfl
@[simp] theorem setReg_irq (r : Reg8) (v : Byte) (s : State) : (setReg r v s).irq = s.irq := rfl
@[simp] theorem setReg_joypad (r : Reg8) (v : Byte) (s : State) : (setReg r v s).joypad = s.joypad := rfl
@[simp] theorem setReg_serial (r : Reg8) (v : Byte) (s : State) : (setReg r v s).serial = s.serial := rfl
@[simp] theorem setReg_timer (r : Reg8) (v : Byte) (s : State) : (setReg r v s).timer = s.timer := rfl
@[simp] theorem setReg_ram (r : Reg8) (v : Byte) (s : State) : (setReg r v s).ram = s.ram := rfl
@[simp] theorem setReg_bus (r : Reg8) (v : Byte) (s : State) : (setReg r v s).bus = s.bus := rfl
@[simp] theorem setReg_hdma (r : Reg8) (v : Byte) (s : State) : (setReg r v s).hdma = s.hdma := rfl
@[simp] theorem setReg_sound (r : Reg8) (v : Byte) (s : State) : (setReg r v s).sound = s.sound := rfl
@[simp] theorem setReg_ppu (r : Reg8) (v : Byte) (s : State) : (setReg r v s).ppu = s.ppu := rfl
@[simp] theorem setReg_cart (r : Reg8) (v : Byte) (s : State) : (setReg r v s).cart = s.cart := rfl
@[simp] theorem setReg_cfg (r : Reg8) (v : Byte) (s : State) : (setReg r v s).cfg = s.cfg := rfl
@[simp] theorem setReg_cycles (r : Reg8) (v : Byte) (s : State) : (setReg r v s).cycles = s.cycles := rfl
@[simp] theorem setReg_freeCount (r : Reg8) (v : Byte) (s : State) : (setReg r v s).freeCount = s.freeCount := rfl

@[simp] theorem setPair_cpu (q : Pair) (v : Word) (s : State) : (setPair q v s).cpu = s.cpu.setPair q v := rfl
@[simp] theorem setPair_irq (q : Pair) (v : Word) (s : State) : (setPair q v s).irq = s.irq := rfl
@[simp] theorem setPair_joypad (q : Pair) (v : Word) (s : State) : (setPair q v s).joypad = s.joypad := rfl
@[simp] theorem setPair_serial (q : Pair) (v : Word) (s : State) : (setPair q v s).serial = s.serial := rfl
@[simp] theorem setPair_timer (q : Pair) (v : Word) (s : State) : (setPair q v s).timer = s.timer := rfl
@[simp] theorem setPair_ram (q : Pair) (v : Word) (s : State) : (setPair q v s).ram = s.ram := rfl
@[simp] theorem setPair_bus (q : Pair) (v : Word) (s : State) : (setPair q v s).bus = s.bus := rfl
@[simp] theorem setPair_hdma (q : Pair) (v : Word) (s : State) : (setPair q v s).hdma = s.hdma := rfl
@[simp] theorem setPair_sound (q : Pair) (v : Word) (s : State) : (setPair q v s).sound = s.sound := rfl
@[simp] theorem setPair_ppu (q : Pair) (v : Word) (s : State) : (setPair q v s).ppu = s.ppu := rfl
@[simp] theorem setPair_cart (q : Pair) (v : Word) (s : State) : (setPair q v s).cart = s.cart := rfl
@[simp] theorem setPair_cfg (q : Pair) (v : Word) (s : State) : (setPair q v s).cfg = s.cfg := rfl
@[simp] theorem setPair_cycles (q : Pair) (v : Word) (s : State) : (setPair q v s).cycles = s.cycles := rfl
@[simp] theorem setPair_freeCount (q : Pair) (v : Word) (s : State) : (setPair q v s).freeCount = s.freeCount := rfl

@[simp] theorem setPc_cpu (v : Word) (s : State) : (setPc v s).cpu = { s.cpu with pc := v } := rfl
@[simp] theorem setPc_irq (v : Word) (s : State) : (setPc v s).irq = s.irq := rfl
@[simp] theorem setPc_joypad (v : Word) (s : State) : (setPc v s).joypad = s.joypad := rfl
@[simp] theorem setPc_serial (v : Word) (s : State) : (setPc v s).serial = s.serial := rfl
@[simp] theorem setPc_timer (v : Word) (s : State) : (setPc v s).timer = s.timer := rfl
@[simp] theorem setPc_ram (v : Word) (s : State) : (setPc v s).ram = s.ram := rfl
@[simp] theorem setPc_bus (v : Word) (s : State) : (setPc v s).bus = s.bus := rfl
@[simp] theorem setPc_hdma (v : Word) (s : State) : (setPc v s).hdma = s.hdma := rfl
@[simp] theorem setPc_sound (v : Word) (s : State) : (setPc v s).sound = s.sound := rfl
@[simp] theorem setPc_ppu (v : Word) (s : State) : (setPc v s).ppu = s.ppu := rfl
@[simp] theorem setPc_cart (v : Word) (s : State) : (setPc v s).cart = s.cart := rfl
@[simp] theorem setPc_cfg (v : Word) (s : State) : (setPc v s).cfg = s.cfg := rfl
@[simp] theorem setPc_cycles (v : Word) (s : State) : (setPc v s).cycles = s.cycles := rfl
@[simp] theorem setPc_freeCount (v : Word) (s : State) : (setPc v s).freeCount = s.freeCount := rfl

@[simp] theorem setFlags_cpu (f : Flags) (s : State) : (setFlags f s).cpu = { s.cpu with flags := f } := rfl
@[simp] theorem setFlags_irq (f : Flags) (s : State) : (setFlags f s).irq = s.irq := rfl
@[simp] theorem setFlags_joypad (f : Flags) (s : State) : (setFlags f s).joypad = s.joypad := rfl
@[simp] theorem setFlags_serial (f : Flags) (s : State) : (setFlags f s).serial = s.serial := rfl
@[simp] theorem setFlags_timer (f : Flags) (s : State) : (setFlags f s).timer = s.timer := rfl
@[simp] theorem setFlags_ram (f : Flags) (s : State) : (setFlags f s).ram = s.ram := rfl
@[simp] theorem setFlags_bus (f : Flags) (s : State) : (setFlags f s).bus = s.bus := rfl
@[simp] theorem setFlags_hdma (f : Flags) (s : State) : (setFlags f s).hdma = s.hdma := rfl
@[simp] theorem setFlags_sound (f : Flags) (s : State) : (setFlags f s).sound = s.sound := rfl
@[simp] theorem setFlags_ppu (f : Flags) (s : State) : (setFlags f s).ppu = s.ppu := rfl
@[simp] theorem setFlags_cart (f : Flags) (s : State) : (setFlags f s).cart = s.cart := rfl
@[simp] theorem setFlags_cfg (f : Flags) (s : State) : (setFlags f s).cfg = s.cfg := rfl
@[simp] theorem setFlags_cycles (f : Flags) (s : State) : (setFlags f s).cycles = s.cycles := rfl
@[simp] theorem setFlags_freeCount (f : Flags) (s : State) : (setFlags f s).freeCount = s.freeCount := rfl

@[simp] theorem setAccFlags_cpu (r : Byte × Flags) (s : State) : (setAccFlags r s).cpu = { s.cpu with a := r.1, flags := r.2 } := rfl
@[simp] theorem setAccFlags_irq (r : Byte × Flags) (s : State) : (setAccFlags r s).irq = s.irq := rfl
@[simp] theorem setAccFlags_joypad (r : Byte × Flags) (s : State) : (setAccFlags r s).joypad = s.joypad := rfl
@[simp] theorem setAccFlags_serial (r : Byte × Flags) (s : State) : (setAccFlags r s).serial = s.serial := rfl
@[simp] theorem setAccFlags_timer (r : Byte × Flags) (s : State) : (setAccFlags r s).timer = s.timer := rfl
@[simp] theorem setAccFlags_ram (r : Byte × Flags) (s : State) : (setAccFlags r s).ram = s.ram := rfl
@[simp] theorem setAccFlags_bus (r : Byte × Flags) (s : State) : (setAccFlags r s).bus = s.bus := rfl
@[simp] theorem setAccFlags_hdma (r : Byte × Flags) (s : State) : (setAccFlags r s).hdma = s.hdma := rfl
@[simp] theorem setAccFlags_sound (r : Byte × Flags) (s : State) : (setAccFlags r s).sound = s.sound := rfl
@[simp] theorem setAccFlags_ppu (r : Byte × Flags) (s : State) : (setAccFlags r s).ppu = s.ppu := rfl
@[simp] theorem setAccFlags_cart (r : Byte × Flags) (s : State) : (setAccFlags r s).cart = s.cart := rfl
@[simp] theorem setAccFlags_cfg (r : Byte × Flags) (s : State) : (setAccFlags r s).cfg = s.cfg := rfl
@[simp] theorem setAccFlags_cycles (r : Byte × Flags) (s : State) : (setAccFlags r s).cycles = s.cycles := rfl
@[simp] theorem setAccFlags_freeCount (r : Byte × Flags) (s : State) : (setAccFlags r s).freeCount = s.freeCount := rfl

@[simp] theorem advancePc_cpu (s : State) : (advancePc s).cpu = { s.cpu with pc := s.cpu.pc + 1 } := rfl
@[simp] theorem advancePc_irq (s : State) : (advancePc s).irq = s.irq := rfl
@[simp] theorem advancePc_joypad (s : State) : (advancePc s).joypad = s.joypad := rfl
@[simp] theorem advancePc_serial (s : State) : (advancePc s).serial = s.serial := rfl
@[simp] theorem advancePc_timer (s : State) : (advancePc s).timer = s.timer := rfl
@[simp] theorem advancePc_ram (s : State) : (advancePc s).ram = s.ram := rfl
@[simp] theorem advancePc_bus (s : State) : (advancePc s).bus = s.bus := rfl
@[simp] theorem advancePc_hdma (s : State) : (advancePc s).hdma = s.hdma := rfl
@[simp] theorem advancePc_sound (s : State) : (advancePc s).sound = s.sound := rfl
@[simp] theorem advancePc_ppu (s : State) : (advancePc s).ppu = s.ppu := rfl
@[simp] theorem advancePc_cart (s : State) : (advancePc s).cart = s.cart := rfl
@[simp] theorem advancePc_cfg (s : State) : (advancePc s).cfg = s.cfg := rfl
@[simp] theorem advancePc_cycles (s : State) : (advancePc s).cycles = s.cycles := rfl
@[simp] theorem advancePc_freeCount (s : State) : (advancePc s).freeCount = s.freeCount := rfl

@[simp] theorem raiseFatal_cpu (f : Fatal) (s : State) : (raiseFatal f s).cpu = { s.cpu with fault := some f } := rfl
@[simp] theorem raiseFatal_irq (f : Fatal) (s : State) : (raiseFatal f s).irq = s.irq := rfl
@[simp] theorem raiseFatal_joypad (f : Fatal) (s : State) : (raiseFatal f s).joypad = s.joypad := rfl
@[simp] theorem raiseFatal_serial (f : Fatal) (s : State) : (raiseFatal f s).serial = s.serial := rfl
@[simp] theorem raiseFatal_timer (f : Fatal) (s : State) : (raiseFatal f s).timer = s.timer := rfl
@[simp] theorem raiseFatal_ram (f : Fatal) (s : State) : (raiseFatal f s).ram = s.ram := rfl
@[simp] theorem raiseFatal_bus (f : Fatal) (s : State) : (raiseFatal f s).bus = s.bus := rfl
@[simp] theorem raiseFatal_hdma (f : Fatal) (s : State) : (raiseFatal f s).hdma = s.hdma := rfl
@[simp] theorem raiseFatal_sound (f : Fatal) (s : State) : (raiseFatal f s).sound = s.sound := rfl
@[simp] theorem raiseFatal_ppu (f : Fatal) (s : State) : (raiseFatal f s).ppu = s.ppu := rfl
@[simp] theorem raiseFatal_cart (f : Fatal) (s : State) : (raiseFatal f s).cart = s.cart := rfl
@[simp] theorem raiseFatal_cfg (f : Fatal) (s : State) : (raiseFatal f s).cfg = s.cfg := rfl
@[simp] theorem raiseFatal_cycles (f : Fatal) (s : State) : (raiseFatal f s).cycles = s.cycles := rfl
@[simp] theorem raiseFatal_freeCount (f : Fatal) (s : State) : (raiseFatal f s).freeCount = s.freeCount := rfl

/-! ## Registers -/

@[simp] theorem Cpu.get_set_self (p : Cpu) (r : Reg8) (v : Byte) : (p.set r v).get r = v := by cases r <;> rfl

theorem Cpu.get_set_of_ne (p : Cpu) {r r' : Reg8} (v : Byte) (h : r' ≠ r) : (p.set r v).get r' = p.get r' := by
  cases r <;> cases r' <;> first | rfl | exact absurd rfl h

@[simp] theorem Cpu.getPair_setPair_self (p : Cpu) (q : Pair) (v : Word) : (p.setPair q v).getPair q = v := by
  cases q <;> simp [Cpu.getPair, Cpu.setPair, Cpu.bc, Cpu.de, Cpu.hl]

theorem Cpu.getPair_setPair_of_ne (p : Cpu) {q q' : Pair} (v : Word) (h : q' ≠ q) :
    (p.setPair q v).getPair q' = p.getPair q' := by
  cases q <;> cases q' <;> first | rfl | exact absurd rfl h

@[simp] theorem Cpu.set_flags (p : Cpu) (r : Reg8) (v : Byte) : (p.set r v).flags = p.flags := by cases r <;> rfl
@[simp] theorem Cpu.set_sp (p : Cpu) (r : Reg8) (v : Byte) : (p.set r v).sp = p.sp := by cases r <;> rfl
@[simp] theorem Cpu.set_pc (p : Cpu) (r : Reg8) (v : Byte) : (p.set r v).pc = p.pc := by cases r <;> rfl
@[simp] theorem Cpu.set_ime (p : Cpu) (r : Reg8) (v : Byte) : (p.set r v).ime = p.ime := by cases r <;> rfl
@[simp] theorem Cpu.set_eiDelay (p : Cpu) (r : Reg8) (v : Byte) : (p.set r v).eiDelay = p.eiDelay := by cases r <;> rfl
@[simp] theorem Cpu.set_status (p : Cpu) (r : Reg8) (v : Byte) : (p.set r v).status = p.status := by cases r <;> rfl
@[simp] theorem Cpu.set_speed (p : Cpu) (r : Reg8) (v : Byte) : (p.set r v).speed = p.speed := by cases r <;> rfl
@[simp] theorem Cpu.set_speedArmed (p : Cpu) (r : Reg8) (v : Byte) : (p.set r v).speedArmed = p.speedArmed := by cases r <;> rfl
@[simp] theorem Cpu.set_fault (p : Cpu) (r : Reg8) (v : Byte) : (p.set r v).fault = p.fault := by cases r <;> rfl

@[simp] theorem Cpu.setPair_a (p : Cpu) (q : Pair) (v : Word) : (p.setPair q v).a = p.a := by cases q <;> rfl
@[simp] theorem Cpu.setPair_flags (p : Cpu) (q : Pair) (v : Word) : (p.setPair q v).flags = p.flags := by cases q <;> rfl
@[simp] theorem Cpu.setPair_pc (p : Cpu) (q : Pair) (v : Word) : (p.setPair q v).pc = p.pc := by cases q <;> rfl
@[simp] theorem Cpu.setPair_ime (p : Cpu) (q : Pair) (v : Word) : (p.setPair q v).ime = p.ime := by cases q <;> rfl
@[simp] theorem Cpu.setPair_eiDelay (p : Cpu) (q : Pair) (v : Word) : (p.setPair q v).eiDelay = p.eiDelay := by cases q <;> rfl
@[simp] theorem Cpu.setPair_status (p : Cpu) (q : Pair) (v : Word) : (p.setPair q v).status = p.status := by cases q <;> rfl
@[simp] theorem Cpu.setPair_speed (p : Cpu) (q : Pair) (v : Word) : (p.setPair q v).speed = p.speed := by cases q <;> rfl
@[simp] theorem Cpu.setPair_speedArmed (p : Cpu) (q : Pair) (v : Word) : (p.setPair q v).speedArmed = p.speedArmed := by cases q <;> rfl
@[simp] theorem Cpu.setPair_fault (p : Cpu) (q : Pair) (v : Word) : (p.setPair q v).fault = p.fault := by cases q <;> rfl

@[simp] theorem Cpu.setStack_sp (p : Cpu) (q : StackPair) (v : Word) : (p.setStack q v).sp = p.sp := by cases q <;> rfl
@[simp] theorem Cpu.setStack_pc (p : Cpu) (q : StackPair) (v : Word) : (p.setStack q v).pc = p.pc := by cases q <;> rfl
@[simp] theorem Cpu.setStack_ime (p : Cpu) (q : StackPair) (v : Word) : (p.setStack q v).ime = p.ime := by cases q <;> rfl
@[simp] theorem Cpu.setStack_eiDelay (p : Cpu) (q : StackPair) (v : Word) : (p.setStack q v).eiDelay = p.eiDelay := by cases q <;> rfl
@[simp] theorem Cpu.setStack_status (p : Cpu) (q : StackPair) (v : Word) : (p.setStack q v).status = p.status := by cases q <;> rfl
@[simp] theorem Cpu.setStack_speed (p : Cpu) (q : StackPair) (v : Word) : (p.setStack q v).speed = p.speed := by cases q <;> rfl
@[simp] theorem Cpu.setStack_speedArmed (p : Cpu) (q : StackPair) (v : Word) : (p.setStack q v).speedArmed = p.speedArmed := by cases q <;> rfl
@[simp] theorem Cpu.setStack_fault (p : Cpu) (q : StackPair) (v : Word) : (p.setStack q v).fault = p.fault := by cases q <;> rfl

/-- F survives a push and a pop (10_state.md R34). -/
@[simp] theorem Flags.ofByte_toByte (f : Flags) : Flags.ofByte f.toByte = f := by
  obtain ⟨z, n, h, c⟩ := f
  cases z <;> cases n <;> cases h <;> cases c <;> rfl

/-! ## The power-on state -/

@[simp] theorem resetOf_cpu (p : Profile) (cfg : Params) (c : Cart) : (State.resetOf p cfg c).cpu = p.cpu := rfl
@[simp] theorem resetOf_irq (p : Profile) (cfg : Params) (c : Cart) : (State.resetOf p cfg c).irq = p.irq := rfl
@[simp] theorem resetOf_joypad (p : Profile) (cfg : Params) (c : Cart) : (State.resetOf p cfg c).joypad = { joy := 0x00, sel := p.joySel, prev := p.joyPrev } := rfl
@[simp] theorem resetOf_serial (p : Profile) (cfg : Params) (c : Cart) : (State.resetOf p cfg c).serial = p.serial := rfl
@[simp] theorem resetOf_timer (p : Profile) (cfg : Params) (c : Cart) : (State.resetOf p cfg c).timer = p.timer := rfl
@[simp] theorem resetOf_ram (p : Profile) (cfg : Params) (c : Cart) : (State.resetOf p cfg c).ram = p.ram := rfl
@[simp] theorem resetOf_bus (p : Profile) (cfg : Params) (c : Cart) : (State.resetOf p cfg c).bus = p.bus := rfl
@[simp] theorem resetOf_hdma (p : Profile) (cfg : Params) (c : Cart) : (State.resetOf p cfg c).hdma = p.hdma := rfl
@[simp] theorem resetOf_sound (p : Profile) (cfg : Params) (c : Cart) : (State.resetOf p cfg c).sound = p.sound := rfl
@[simp] theorem resetOf_ppu (p : Profile) (cfg : Params) (c : Cart) : (State.resetOf p cfg c).ppu = p.ppu := rfl
@[simp] theorem resetOf_cart (p : Profile) (cfg : Params) (c : Cart) : (State.resetOf p cfg c).cart = { c with toBankRegs := p.banks } := rfl
@[simp] theorem resetOf_cfg (p : Profile) (cfg : Params) (c : Cart) : (State.resetOf p cfg c).cfg = cfg := rfl
@[simp] theorem resetOf_cycles (p : Profile) (cfg : Params) (c : Cart) : (State.resetOf p cfg c).cycles = 0 := rfl
@[simp] theorem resetOf_freeCount (p : Profile) (cfg : Params) (c : Cart) : (State.resetOf p cfg c).freeCount = 0 := rfl

end Sys2Proof.Machine
end

