-- ==== Sys2Proof/Laws/Step.lean ====
section
/-! SUPPORT. What the accesses of an instruction do to the processor, and why the fetch never fails to decode. -/

namespace Sys2Proof.Machine

/-! ## Fetches -/

@[simp] theorem memRead_cpu (a : Word) (s : State) : (memRead a s).2.cpu = s.cpu := cycle_cpu s

/-- A fetch moves pc past one byte and changes no other register (00_scope.md R16). -/
@[simp] theorem fetch8_cpu (s : State) : (fetch8 s).2.cpu = { s.cpu with pc := s.cpu.pc + 1 } := by
  show (advancePc (cycle s)).cpu = _
  rw [← cycle_cpu s]
  rfl

@[simp] theorem fetch8_cycles (s : State) : (fetch8 s).2.cycles = s.cycles + 1 := cycle_cycles s

@[simp] theorem fetchBytes_length (n : Nat) (s : State) : (fetchBytes n s).1.length = n := by
  induction n generalizing s with
  | zero => rfl
  | succ n ih => simp [fetchBytes, ih]

/-- The decoder has an answer whenever it has the bytes that the first byte asks for. -/
theorem decode_of_more {op : Byte} {bs : List Byte} (h : bs.length = (primaryRow op).more) :
    ∃ i, decode (op :: bs) = .ok (i, []) := by
  simp only [decode]
  generalize primaryRow op = row at h
  rcases row with i | k | k | _ <;> simp [Row.more] at h
  · subst h; exact ⟨_, rfl⟩
  · obtain ⟨n, rfl⟩ := List.length_eq_one_iff.1 h; exact ⟨_, rfl⟩
  · rcases bs with _ | ⟨l, _ | ⟨u, _ | _⟩⟩ <;> simp at h; exact ⟨_, rfl⟩
  · obtain ⟨n, rfl⟩ := List.length_eq_one_iff.1 h; exact ⟨_, rfl⟩

/-! ## The stack -/

/-- The processor after a push of one byte: sp, and `speedArmed` if the byte landed on KEY1 (00_scope.md R17). -/
theorem pushByte_cpu (v : Byte) (s : State) :
    { (pushByte v s).cpu with speedArmed := s.cpu.speedArmed } = { s.cpu with sp := s.cpu.sp - 1 } := by
  have h := busWrite_cpu (s.cpu.sp - 1) v (cycle { s with cpu.sp := s.cpu.sp - 1 })
  rw [cycle_cpu] at h
  exact h

@[simp] theorem pushByte_sp (v : Byte) (s : State) : (pushByte v s).cpu.sp = s.cpu.sp - 1 := by
  simp [pushByte, memWrite]

@[simp] theorem pushByte_pc (v : Byte) (s : State) : (pushByte v s).cpu.pc = s.cpu.pc := by
  simp [pushByte, memWrite]

@[simp] theorem pushByte_cfg (v : Byte) (s : State) : (pushByte v s).cfg = s.cfg := by
  simp [pushByte, memWrite]

@[simp] theorem pushByte_cycles (v : Byte) (s : State) : (pushByte v s).cycles = s.cycles + 1 := by
  simp [pushByte, memWrite]

/-- A pop of one byte moves sp and changes no other register. -/
@[simp] theorem popByte_cpu (s : State) : (popByte s).2.cpu = { s.cpu with sp := s.cpu.sp + 1 } := by
  show { (cycle s).cpu with sp := (cycle s).cpu.sp + 1 } = _
  rw [cycle_cpu]

/-- A pop of a word moves sp by two and changes no other register. -/
@[simp] theorem pop16_cpu (s : State) : (pop16 s).2.cpu = { s.cpu with sp := s.cpu.sp + 2 } := by
  show (popByte (popByte s).2).2.cpu = _
  simp only [popByte_cpu]
  rw [BitVec.add_assoc]
  rfl

/-! ## The operand forms -/

@[simp] theorem readOpd_cpu (o : Opd8) (s : State) : (readOpd o s).2.cpu = s.cpu := by
  cases o
  · rfl
  · exact cycle_cpu s

/-- Where a condition does not hold nothing happens. -/
theorem whenCond_of_not {cc : Cond} {s : State} (f : State → State) (h : condHolds cc s.cpu.flags = false) :
    whenCond cc f s = s := by simp [whenCond, h]

theorem whenCond_of {cc : Cond} {s : State} (f : State → State) (h : condHolds cc s.cpu.flags = true) :
    whenCond cc f s = f s := by simp [whenCond, h]

/-! ## Runs -/

@[simp] theorem stepsFrom_zero (s : State) : stepsFrom 0 s = .next s := rfl

theorem stepsFrom_next {s t : State} (h : step s = .next t) (n : Nat) : stepsFrom (n + 1) s = stepsFrom n t := by
  rw [stepsFrom, h]

theorem stepsFrom_fault {s : State} {f : Fault} (h : step s = .fault f) (n : Nat) : stepsFrom (n + 1) s = .fault f := by
  rw [stepsFrom, h]

theorem EndsAt.no_fault {finish : Word} {n : Nat} {s : State} (h : EndsAt finish n s) :
    ∃ t, stepsFrom n s = .next t ∧ t.cpu.fault = none :=
  let ⟨t, e, a⟩ := h.1
  ⟨t, e, a.2.2⟩

end Sys2Proof.Machine
end

