-- ==== Sys2Proof/Tests/Slice0.lean ====
section
/-! SUPPORT. The model's own tests: the word of every row, one step per family from the spec's vectors, and for every statement
with hypotheses a state that meets them. -/

namespace Sys2Proof.Tests

open Sys2Proof Sys2Proof.Machine Sys2Proof.Claims

set_option maxRecDepth 100000

/-! ## Well-formedness -/

theorem test_prefix_row_is_not_wellFormed : (Instr.prefixCB 0x37).wellFormed = false := by decide
theorem test_extended_row_is_wellFormed : Instr.swapA.wellFormed = true := by decide

/-! ## Decoding, from the encoding column of spec/opcode_table.json -/

def words0 : List (Nat × Nat × Instr) :=
  [(8, 0b00000000, .nop), (24, 0b001111001010010100000001, .ldBCnn 0x3CA5), (8, 0b00000010, .ldMBCA),
   (8, 0b00000011, .incBC), (8, 0b00000100, .incB), (8, 0b00000101, .decB),
   (16, 0b1010010100000110, .ldBn 0xA5), (8, 0b00000111, .rlca), (24, 0b001111001010010100001000, .ldMnnSP 0x3CA5),
   (8, 0b00001001, .addHLBC), (8, 0b00001010, .ldAMBC), (8, 0b00001011, .decBC),
   (8, 0b00001100, .incC), (8, 0b00001101, .decC), (16, 0b1010010100001110, .ldCn 0xA5),
   (8, 0b00001111, .rrca), (8, 0b00010000, .stop), (24, 0b001111001010010100010001, .ldDEnn 0x3CA5),
   (8, 0b00010010, .ldMDEA), (8, 0b00010011, .incDE), (8, 0b00010100, .incD),
   (8, 0b00010101, .decD), (16, 0b1010010100010110, .ldDn 0xA5), (8, 0b00010111, .rla),
   (16, 0b1010010100011000, .jre 0xA5), (8, 0b00011001, .addHLDE), (8, 0b00011010, .ldAMDE),
   (8, 0b00011011, .decDE), (8, 0b00011100, .incE), (8, 0b00011101, .decE),
   (16, 0b1010010100011110, .ldEn 0xA5), (8, 0b00011111, .rra)]

def words1 : List (Nat × Nat × Instr) :=
  [(16, 0b1010010100100000, .jrNZe 0xA5), (24, 0b001111001010010100100001, .ldHLnn 0x3CA5), (8, 0b00100010, .ldMHLIncA),
   (8, 0b00100011, .incHL), (8, 0b00100100, .incH), (8, 0b00100101, .decH),
   (16, 0b1010010100100110, .ldHn 0xA5), (8, 0b00100111, .daa), (16, 0b1010010100101000, .jrZe 0xA5),
   (8, 0b00101001, .addHLHL), (8, 0b00101010, .ldAMHLInc), (8, 0b00101011, .decHL),
   (8, 0b00101100, .incL), (8, 0b00101101, .decL), (16, 0b1010010100101110, .ldLn 0xA5),
   (8, 0b00101111, .cpl), (16, 0b1010010100110000, .jrNCe 0xA5), (24, 0b001111001010010100110001, .ldSPnn 0x3CA5),
   (8, 0b00110010, .ldMHLDecA), (8, 0b00110011, .incSP), (8, 0b00110100, .incMHL),
   (8, 0b00110101, .decMHL), (16, 0b1010010100110110, .ldMHLn 0xA5), (8, 0b00110111, .scf),
   (16, 0b1010010100111000, .jrCe 0xA5), (8, 0b00111001, .addHLSP), (8, 0b00111010, .ldAMHLDec),
   (8, 0b00111011, .decSP), (8, 0b00111100, .incA), (8, 0b00111101, .decA),
   (16, 0b1010010100111110, .ldAn 0xA5), (8, 0b00111111, .ccf)]

def words2 : List (Nat × Nat × Instr) :=
  [(8, 0b01000000, .ldBB), (8, 0b01000001, .ldBC), (8, 0b01000010, .ldBD),
   (8, 0b01000011, .ldBE), (8, 0b01000100, .ldBH), (8, 0b01000101, .ldBL),
   (8, 0b01000110, .ldBMHL), (8, 0b01000111, .ldBA), (8, 0b01001000, .ldCB),
   (8, 0b01001001, .ldCC), (8, 0b01001010, .ldCD), (8, 0b01001011, .ldCE),
   (8, 0b01001100, .ldCH), (8, 0b01001101, .ldCL), (8, 0b01001110, .ldCMHL),
   (8, 0b01001111, .ldCA), (8, 0b01010000, .ldDB), (8, 0b01010001, .ldDC),
   (8, 0b01010010, .ldDD), (8, 0b01010011, .ldDE), (8, 0b01010100, .ldDH),
   (8, 0b01010101, .ldDL), (8, 0b01010110, .ldDMHL), (8, 0b01010111, .ldDA),
   (8, 0b01011000, .ldEB), (8, 0b01011001, .ldEC), (8, 0b01011010, .ldED),
   (8, 0b01011011, .ldEE), (8, 0b01011100, .ldEH), (8, 0b01011101, .ldEL),
   (8, 0b01011110, .ldEMHL), (8, 0b01011111, .ldEA)]

def words3 : List (Nat × Nat × Instr) :=
  [(8, 0b01100000, .ldHB), (8, 0b01100001, .ldHC), (8, 0b01100010, .ldHD),
   (8, 0b01100011, .ldHE), (8, 0b01100100, .ldHH), (8, 0b01100101, .ldHL),
   (8, 0b01100110, .ldHMHL), (8, 0b01100111, .ldHA), (8, 0b01101000, .ldLB),
   (8, 0b01101001, .ldLC), (8, 0b01101010, .ldLD), (8, 0b01101011, .ldLE),
   (8, 0b01101100, .ldLH), (8, 0b01101101, .ldLL), (8, 0b01101110, .ldLMHL),
   (8, 0b01101111, .ldLA), (8, 0b01110000, .ldMHLB), (8, 0b01110001, .ldMHLC),
   (8, 0b01110010, .ldMHLD), (8, 0b01110011, .ldMHLE), (8, 0b01110100, .ldMHLH),
   (8, 0b01110101, .ldMHLL), (8, 0b01110110, .halt), (8, 0b01110111, .ldMHLA),
   (8, 0b01111000, .ldAB), (8, 0b01111001, .ldAC), (8, 0b01111010, .ldAD),
   (8, 0b01111011, .ldAE), (8, 0b01111100, .ldAH), (8, 0b01111101, .ldAL),
   (8, 0b01111110, .ldAMHL), (8, 0b01111111, .ldAA)]

def words4 : List (Nat × Nat × Instr) :=
  [(8, 0b10000000, .addAB), (8, 0b10000001, .addAC), (8, 0b10000010, .addAD),
   (8, 0b10000011, .addAE), (8, 0b10000100, .addAH), (8, 0b10000101, .addAL),
   (8, 0b10000110, .addAMHL), (8, 0b10000111, .addAA), (8, 0b10001000, .adcAB),
   (8, 0b10001001, .adcAC), (8, 0b10001010, .adcAD), (8, 0b10001011, .adcAE),
   (8, 0b10001100, .adcAH), (8, 0b10001101, .adcAL), (8, 0b10001110, .adcAMHL),
   (8, 0b10001111, .adcAA), (8, 0b10010000, .subB), (8, 0b10010001, .subC),
   (8, 0b10010010, .subD), (8, 0b10010011, .subE), (8, 0b10010100, .subH),
   (8, 0b10010101, .subL), (8, 0b10010110, .subMHL), (8, 0b10010111, .subA),
   (8, 0b10011000, .sbcAB), (8, 0b10011001, .sbcAC), (8, 0b10011010, .sbcAD),
   (8, 0b10011011, .sbcAE), (8, 0b10011100, .sbcAH), (8, 0b10011101, .sbcAL),
   (8, 0b10011110, .sbcAMHL), (8, 0b10011111, .sbcAA)]

def words5 : List (Nat × Nat × Instr) :=
  [(8, 0b10100000, .andB), (8, 0b10100001, .andC), (8, 0b10100010, .andD),
   (8, 0b10100011, .andE), (8, 0b10100100, .andH), (8, 0b10100101, .andL),
   (8, 0b10100110, .andMHL), (8, 0b10100111, .andA), (8, 0b10101000, .xorB),
   (8, 0b10101001, .xorC), (8, 0b10101010, .xorD), (8, 0b10101011, .xorE),
   (8, 0b10101100, .xorH), (8, 0b10101101, .xorL), (8, 0b10101110, .xorMHL),
   (8, 0b10101111, .xorA), (8, 0b10110000, .orB), (8, 0b10110001, .orC),
   (8, 0b10110010, .orD), (8, 0b10110011, .orE), (8, 0b10110100, .orH),
   (8, 0b10110101, .orL), (8, 0b10110110, .orMHL), (8, 0b10110111, .orA),
   (8, 0b10111000, .cpB), (8, 0b10111001, .cpC), (8, 0b10111010, .cpD),
   (8, 0b10111011, .cpE), (8, 0b10111100, .cpH), (8, 0b10111101, .cpL),
   (8, 0b10111110, .cpMHL), (8, 0b10111111, .cpA)]

def words6 : List (Nat × Nat × Instr) :=
  [(8, 0b11000000, .retNZ), (8, 0b11000001, .popBC), (24, 0b001111001010010111000010, .jpNZnn 0x3CA5),
   (24, 0b001111001010010111000011, .jpnn 0x3CA5), (24, 0b001111001010010111000100, .callNZnn 0x3CA5), (8, 0b11000101, .pushBC),
   (16, 0b1010010111000110, .addAn 0xA5), (8, 0b11000111, .rst00), (8, 0b11001000, .retZ),
   (8, 0b11001001, .ret), (24, 0b001111001010010111001010, .jpZnn 0x3CA5), (24, 0b001111001010010111001100, .callZnn 0x3CA5),
   (24, 0b001111001010010111001101, .callnn 0x3CA5), (16, 0b1010010111001110, .adcAn 0xA5), (8, 0b11001111, .rst08),
   (8, 0b11010000, .retNC), (8, 0b11010001, .popDE), (24, 0b001111001010010111010010, .jpNCnn 0x3CA5),
   (8, 0b11010011, .illegalD3), (24, 0b001111001010010111010100, .callNCnn 0x3CA5), (8, 0b11010101, .pushDE),
   (16, 0b1010010111010110, .subn 0xA5), (8, 0b11010111, .rst10), (8, 0b11011000, .retC),
   (8, 0b11011001, .reti), (24, 0b001111001010010111011010, .jpCnn 0x3CA5), (8, 0b11011011, .illegalDB),
   (24, 0b001111001010010111011100, .callCnn 0x3CA5), (8, 0b11011101, .illegalDD), (16, 0b1010010111011110, .sbcAn 0xA5),
   (8, 0b11011111, .rst18), (16, 0b1010010111100000, .ldhMnA 0xA5)]

def words7 : List (Nat × Nat × Instr) :=
  [(8, 0b11100001, .popHL), (8, 0b11100010, .ldhMCA), (8, 0b11100011, .illegalE3),
   (8, 0b11100100, .illegalE4), (8, 0b11100101, .pushHL), (16, 0b1010010111100110, .andn 0xA5),
   (8, 0b11100111, .rst20), (16, 0b1010010111101000, .addSPe 0xA5), (8, 0b11101001, .jpHL),
   (24, 0b001111001010010111101010, .ldMnnA 0x3CA5), (8, 0b11101011, .illegalEB), (8, 0b11101100, .illegalEC),
   (8, 0b11101101, .illegalED), (16, 0b1010010111101110, .xorn 0xA5), (8, 0b11101111, .rst28),
   (16, 0b1010010111110000, .ldhAMn 0xA5), (8, 0b11110001, .popAF), (8, 0b11110010, .ldhAMC),
   (8, 0b11110011, .di), (8, 0b11110100, .illegalF4), (8, 0b11110101, .pushAF),
   (16, 0b1010010111110110, .orn 0xA5), (8, 0b11110111, .rst30), (16, 0b1010010111111000, .ldHLSPe 0xA5),
   (8, 0b11111001, .ldSPHL), (24, 0b001111001010010111111010, .ldAMnn 0x3CA5), (8, 0b11111011, .ei),
   (8, 0b11111100, .illegalFC), (8, 0b11111101, .illegalFD), (16, 0b1010010111111110, .cpn 0xA5),
   (8, 0b11111111, .rst38), (16, 0b0000000011001011, .rlcB)]

def words8 : List (Nat × Nat × Instr) :=
  [(16, 0b0000000111001011, .rlcC), (16, 0b0000001011001011, .rlcD), (16, 0b0000001111001011, .rlcE),
   (16, 0b0000010011001011, .rlcH), (16, 0b0000010111001011, .rlcL), (16, 0b0000011011001011, .rlcMHL),
   (16, 0b0000011111001011, .rlcA), (16, 0b0000100011001011, .rrcB), (16, 0b0000100111001011, .rrcC),
   (16, 0b0000101011001011, .rrcD), (16, 0b0000101111001011, .rrcE), (16, 0b0000110011001011, .rrcH),
   (16, 0b0000110111001011, .rrcL), (16, 0b0000111011001011, .rrcMHL), (16, 0b0000111111001011, .rrcA),
   (16, 0b0001000011001011, .rlB), (16, 0b0001000111001011, .rlC), (16, 0b0001001011001011, .rlD),
   (16, 0b0001001111001011, .rlE), (16, 0b0001010011001011, .rlH), (16, 0b0001010111001011, .rlL),
   (16, 0b0001011011001011, .rlMHL), (16, 0b0001011111001011, .rlA), (16, 0b0001100011001011, .rrB),
   (16, 0b0001100111001011, .rrC), (16, 0b0001101011001011, .rrD), (16, 0b0001101111001011, .rrE),
   (16, 0b0001110011001011, .rrH), (16, 0b0001110111001011, .rrL), (16, 0b0001111011001011, .rrMHL),
   (16, 0b0001111111001011, .rrA), (16, 0b0010000011001011, .slaB)]

def words9 : List (Nat × Nat × Instr) :=
  [(16, 0b0010000111001011, .slaC), (16, 0b0010001011001011, .slaD), (16, 0b0010001111001011, .slaE),
   (16, 0b0010010011001011, .slaH), (16, 0b0010010111001011, .slaL), (16, 0b0010011011001011, .slaMHL),
   (16, 0b0010011111001011, .slaA), (16, 0b0010100011001011, .sraB), (16, 0b0010100111001011, .sraC),
   (16, 0b0010101011001011, .sraD), (16, 0b0010101111001011, .sraE), (16, 0b0010110011001011, .sraH),
   (16, 0b0010110111001011, .sraL), (16, 0b0010111011001011, .sraMHL), (16, 0b0010111111001011, .sraA),
   (16, 0b0011000011001011, .swapB), (16, 0b0011000111001011, .swapC), (16, 0b0011001011001011, .swapD),
   (16, 0b0011001111001011, .swapE), (16, 0b0011010011001011, .swapH), (16, 0b0011010111001011, .swapL),
   (16, 0b0011011011001011, .swapMHL), (16, 0b0011011111001011, .swapA), (16, 0b0011100011001011, .srlB),
   (16, 0b0011100111001011, .srlC), (16, 0b0011101011001011, .srlD), (16, 0b0011101111001011, .srlE),
   (16, 0b0011110011001011, .srlH), (16, 0b0011110111001011, .srlL), (16, 0b0011111011001011, .srlMHL),
   (16, 0b0011111111001011, .srlA), (16, 0b0100000011001011, .bit0B)]

def words10 : List (Nat × Nat × Instr) :=
  [(16, 0b0100000111001011, .bit0C), (16, 0b0100001011001011, .bit0D), (16, 0b0100001111001011, .bit0E),
   (16, 0b0100010011001011, .bit0H), (16, 0b0100010111001011, .bit0L), (16, 0b0100011011001011, .bit0MHL),
   (16, 0b0100011111001011, .bit0A), (16, 0b0100100011001011, .bit1B), (16, 0b0100100111001011, .bit1C),
   (16, 0b0100101011001011, .bit1D), (16, 0b0100101111001011, .bit1E), (16, 0b0100110011001011, .bit1H),
   (16, 0b0100110111001011, .bit1L), (16, 0b0100111011001011, .bit1MHL), (16, 0b0100111111001011, .bit1A),
   (16, 0b0101000011001011, .bit2B), (16, 0b0101000111001011, .bit2C), (16, 0b0101001011001011, .bit2D),
   (16, 0b0101001111001011, .bit2E), (16, 0b0101010011001011, .bit2H), (16, 0b0101010111001011, .bit2L),
   (16, 0b0101011011001011, .bit2MHL), (16, 0b0101011111001011, .bit2A), (16, 0b0101100011001011, .bit3B),
   (16, 0b0101100111001011, .bit3C), (16, 0b0101101011001011, .bit3D), (16, 0b0101101111001011, .bit3E),
   (16, 0b0101110011001011, .bit3H), (16, 0b0101110111001011, .bit3L), (16, 0b0101111011001011, .bit3MHL),
   (16, 0b0101111111001011, .bit3A), (16, 0b0110000011001011, .bit4B)]

def words11 : List (Nat × Nat × Instr) :=
  [(16, 0b0110000111001011, .bit4C), (16, 0b0110001011001011, .bit4D), (16, 0b0110001111001011, .bit4E),
   (16, 0b0110010011001011, .bit4H), (16, 0b0110010111001011, .bit4L), (16, 0b0110011011001011, .bit4MHL),
   (16, 0b0110011111001011, .bit4A), (16, 0b0110100011001011, .bit5B), (16, 0b0110100111001011, .bit5C),
   (16, 0b0110101011001011, .bit5D), (16, 0b0110101111001011, .bit5E), (16, 0b0110110011001011, .bit5H),
   (16, 0b0110110111001011, .bit5L), (16, 0b0110111011001011, .bit5MHL), (16, 0b0110111111001011, .bit5A),
   (16, 0b0111000011001011, .bit6B), (16, 0b0111000111001011, .bit6C), (16, 0b0111001011001011, .bit6D),
   (16, 0b0111001111001011, .bit6E), (16, 0b0111010011001011, .bit6H), (16, 0b0111010111001011, .bit6L),
   (16, 0b0111011011001011, .bit6MHL), (16, 0b0111011111001011, .bit6A), (16, 0b0111100011001011, .bit7B),
   (16, 0b0111100111001011, .bit7C), (16, 0b0111101011001011, .bit7D), (16, 0b0111101111001011, .bit7E),
   (16, 0b0111110011001011, .bit7H), (16, 0b0111110111001011, .bit7L), (16, 0b0111111011001011, .bit7MHL),
   (16, 0b0111111111001011, .bit7A), (16, 0b1000000011001011, .res0B)]

def words12 : List (Nat × Nat × Instr) :=
  [(16, 0b1000000111001011, .res0C), (16, 0b1000001011001011, .res0D), (16, 0b1000001111001011, .res0E),
   (16, 0b1000010011001011, .res0H), (16, 0b1000010111001011, .res0L), (16, 0b1000011011001011, .res0MHL),
   (16, 0b1000011111001011, .res0A), (16, 0b1000100011001011, .res1B), (16, 0b1000100111001011, .res1C),
   (16, 0b1000101011001011, .res1D), (16, 0b1000101111001011, .res1E), (16, 0b1000110011001011, .res1H),
   (16, 0b1000110111001011, .res1L), (16, 0b1000111011001011, .res1MHL), (16, 0b1000111111001011, .res1A),
   (16, 0b1001000011001011, .res2B), (16, 0b1001000111001011, .res2C), (16, 0b1001001011001011, .res2D),
   (16, 0b1001001111001011, .res2E), (16, 0b1001010011001011, .res2H), (16, 0b1001010111001011, .res2L),
   (16, 0b1001011011001011, .res2MHL), (16, 0b1001011111001011, .res2A), (16, 0b1001100011001011, .res3B),
   (16, 0b1001100111001011, .res3C), (16, 0b1001101011001011, .res3D), (16, 0b1001101111001011, .res3E),
   (16, 0b1001110011001011, .res3H), (16, 0b1001110111001011, .res3L), (16, 0b1001111011001011, .res3MHL),
   (16, 0b1001111111001011, .res3A), (16, 0b1010000011001011, .res4B)]

def words13 : List (Nat × Nat × Instr) :=
  [(16, 0b1010000111001011, .res4C), (16, 0b1010001011001011, .res4D), (16, 0b1010001111001011, .res4E),
   (16, 0b1010010011001011, .res4H), (16, 0b1010010111001011, .res4L), (16, 0b1010011011001011, .res4MHL),
   (16, 0b1010011111001011, .res4A), (16, 0b1010100011001011, .res5B), (16, 0b1010100111001011, .res5C),
   (16, 0b1010101011001011, .res5D), (16, 0b1010101111001011, .res5E), (16, 0b1010110011001011, .res5H),
   (16, 0b1010110111001011, .res5L), (16, 0b1010111011001011, .res5MHL), (16, 0b1010111111001011, .res5A),
   (16, 0b1011000011001011, .res6B), (16, 0b1011000111001011, .res6C), (16, 0b1011001011001011, .res6D),
   (16, 0b1011001111001011, .res6E), (16, 0b1011010011001011, .res6H), (16, 0b1011010111001011, .res6L),
   (16, 0b1011011011001011, .res6MHL), (16, 0b1011011111001011, .res6A), (16, 0b1011100011001011, .res7B),
   (16, 0b1011100111001011, .res7C), (16, 0b1011101011001011, .res7D), (16, 0b1011101111001011, .res7E),
   (16, 0b1011110011001011, .res7H), (16, 0b1011110111001011, .res7L), (16, 0b1011111011001011, .res7MHL),
   (16, 0b1011111111001011, .res7A), (16, 0b1100000011001011, .set0B)]

def words14 : List (Nat × Nat × Instr) :=
  [(16, 0b1100000111001011, .set0C), (16, 0b1100001011001011, .set0D), (16, 0b1100001111001011, .set0E),
   (16, 0b1100010011001011, .set0H), (16, 0b1100010111001011, .set0L), (16, 0b1100011011001011, .set0MHL),
   (16, 0b1100011111001011, .set0A), (16, 0b1100100011001011, .set1B), (16, 0b1100100111001011, .set1C),
   (16, 0b1100101011001011, .set1D), (16, 0b1100101111001011, .set1E), (16, 0b1100110011001011, .set1H),
   (16, 0b1100110111001011, .set1L), (16, 0b1100111011001011, .set1MHL), (16, 0b1100111111001011, .set1A),
   (16, 0b1101000011001011, .set2B), (16, 0b1101000111001011, .set2C), (16, 0b1101001011001011, .set2D),
   (16, 0b1101001111001011, .set2E), (16, 0b1101010011001011, .set2H), (16, 0b1101010111001011, .set2L),
   (16, 0b1101011011001011, .set2MHL), (16, 0b1101011111001011, .set2A), (16, 0b1101100011001011, .set3B),
   (16, 0b1101100111001011, .set3C), (16, 0b1101101011001011, .set3D), (16, 0b1101101111001011, .set3E),
   (16, 0b1101110011001011, .set3H), (16, 0b1101110111001011, .set3L), (16, 0b1101111011001011, .set3MHL),
   (16, 0b1101111111001011, .set3A), (16, 0b1110000011001011, .set4B)]

def words15 : List (Nat × Nat × Instr) :=
  [(16, 0b1110000111001011, .set4C), (16, 0b1110001011001011, .set4D), (16, 0b1110001111001011, .set4E),
   (16, 0b1110010011001011, .set4H), (16, 0b1110010111001011, .set4L), (16, 0b1110011011001011, .set4MHL),
   (16, 0b1110011111001011, .set4A), (16, 0b1110100011001011, .set5B), (16, 0b1110100111001011, .set5C),
   (16, 0b1110101011001011, .set5D), (16, 0b1110101111001011, .set5E), (16, 0b1110110011001011, .set5H),
   (16, 0b1110110111001011, .set5L), (16, 0b1110111011001011, .set5MHL), (16, 0b1110111111001011, .set5A),
   (16, 0b1111000011001011, .set6B), (16, 0b1111000111001011, .set6C), (16, 0b1111001011001011, .set6D),
   (16, 0b1111001111001011, .set6E), (16, 0b1111010011001011, .set6H), (16, 0b1111010111001011, .set6L),
   (16, 0b1111011011001011, .set6MHL), (16, 0b1111011111001011, .set6A), (16, 0b1111100011001011, .set7B),
   (16, 0b1111100111001011, .set7C), (16, 0b1111101011001011, .set7D), (16, 0b1111101111001011, .set7E),
   (16, 0b1111110011001011, .set7H), (16, 0b1111110111001011, .set7L), (16, 0b1111111011001011, .set7MHL),
   (16, 0b1111111111001011, .set7A)]

/-- The word of every row of the table, written out from its encoding column (the byte of the first column lowest; an
immediate byte is 10100101, a second one 00111100), and the instruction it stands for. The row of the prefix alone is no
instruction of the decoder. -/
def words : List (Nat × Nat × Instr) :=
  words0 ++ words1 ++ words2 ++ words3 ++ words4 ++ words5 ++
    words6 ++ words7 ++ words8 ++ words9 ++ words10 ++ words11 ++
    words12 ++ words13 ++ words14 ++ words15

theorem test_words0 : words0.all (fun r => decide (decodeTableWord r.1 r.2.1 = some r.2.2)) = true := by decide
theorem test_words1 : words1.all (fun r => decide (decodeTableWord r.1 r.2.1 = some r.2.2)) = true := by decide
theorem test_words2 : words2.all (fun r => decide (decodeTableWord r.1 r.2.1 = some r.2.2)) = true := by decide
theorem test_words3 : words3.all (fun r => decide (decodeTableWord r.1 r.2.1 = some r.2.2)) = true := by decide
theorem test_words4 : words4.all (fun r => decide (decodeTableWord r.1 r.2.1 = some r.2.2)) = true := by decide
theorem test_words5 : words5.all (fun r => decide (decodeTableWord r.1 r.2.1 = some r.2.2)) = true := by decide
theorem test_words6 : words6.all (fun r => decide (decodeTableWord r.1 r.2.1 = some r.2.2)) = true := by decide
theorem test_words7 : words7.all (fun r => decide (decodeTableWord r.1 r.2.1 = some r.2.2)) = true := by decide
theorem test_words8 : words8.all (fun r => decide (decodeTableWord r.1 r.2.1 = some r.2.2)) = true := by decide
theorem test_words9 : words9.all (fun r => decide (decodeTableWord r.1 r.2.1 = some r.2.2)) = true := by decide
theorem test_words10 : words10.all (fun r => decide (decodeTableWord r.1 r.2.1 = some r.2.2)) = true := by decide
theorem test_words11 : words11.all (fun r => decide (decodeTableWord r.1 r.2.1 = some r.2.2)) = true := by decide
theorem test_words12 : words12.all (fun r => decide (decodeTableWord r.1 r.2.1 = some r.2.2)) = true := by decide
theorem test_words13 : words13.all (fun r => decide (decodeTableWord r.1 r.2.1 = some r.2.2)) = true := by decide
theorem test_words14 : words14.all (fun r => decide (decodeTableWord r.1 r.2.1 = some r.2.2)) = true := by decide
theorem test_words15 : words15.all (fun r => decide (decodeTableWord r.1 r.2.1 = some r.2.2)) = true := by decide

theorem test_words_cover_the_table : words.length = 511 := by decide

theorem test_decode_rejects_no_bytes : decodeTableWord 8 0xDD = some .illegalDD ∧ decode [] = .error .noBytes := ⟨by decide, rfl⟩
theorem test_decode_rejects_a_cut_immediate : decode [0x21, 0x00] = .error (.truncated 0x21) := rfl

/-! ## One step -/

/-- The start state of 95_test_vectors.md: the Mono profile with F = 00. -/
def start : State := { State.reset with cpu.flags := { z := false, n := false, h := false, c := false } }

/-- The state after one step of the instruction with the bits `w`. -/
def after (s : State) (nbits w : Nat) : Option State :=
  match step (s.withFetchWord nbits w) with
  | .next t => some t
  | .fault _ => none
  | .refused _ => none

/-- The registers A, F, pc and the machine cycles. -/
def seen (s : State) : Byte × Byte × Word × Nat := (s.cpu.a, s.cpu.flags.toByte, s.cpu.pc, s.cycles)

/-- 95_test_vectors.md V-LOAD8, `LD H,(HL)`. -/
theorem test_ld_h_from_hl :
    (after (busWrite 0xC010 0x99 { start with cpu.h := 0xC0, cpu.l := 0x10 }) 8 0x66).map
      (fun t => (t.cpu.hl, t.cpu.pc, t.cycles)) = some (0x9910, 0x0101, 2) := by decide
/-- V-LOAD8, `LD (nn),A` through the echo. -/
theorem test_store_through_echo :
    (after { start with cpu.a := 0x24 } 24 0xE000EA).map (fun t => (busRead t 0xC000, busRead t 0xE000, seen t)) =
      some (0x24, 0x24, 0x24, 0x00, 0x0103, 4) := by decide
/-- V-LOAD8, `LDH A,(n)` of IF. -/
theorem test_ldh_reads_if : (after start 16 0x0FF0).map seen = some (0xE1, 0x00, 0x0102, 3) := by decide
/-- V-LOAD8, `LD (HL+),A` at the end of work RAM. -/
theorem test_ld_hl_inc :
    (after { start with cpu.a := 0x11, cpu.h := 0xDF, cpu.l := 0xFF } 8 0x22).map
      (fun t => (busRead t 0xDFFF, t.cpu.hl, t.cycles)) = some (0x11, 0xE000, 2) := by decide
/-- V-LOAD16, `PUSH AF`. -/
theorem test_push_af :
    (after { start with cpu.a := 0x12, cpu.flags := Flags.ofByte 0xF0, cpu.sp := 0xC002 } 8 0xF5).map
      (fun t => (busRead t 0xC001, busRead t 0xC000, t.cpu.sp, t.cycles)) = some (0x12, 0xF0, 0xC000, 4) := by decide
/-- V-LOAD16, `PUSH DE` with sp = 0001: the high byte goes to 0000, the low byte to IE. -/
theorem test_push_wraps_into_ie :
    (after { start with cpu.d := 0x55, cpu.e := 0x66, cpu.sp := 0x0001 } 8 0xD5).map (fun t => (t.irq.ie, t.cpu.sp)) =
      some (0x66, 0xFFFF) := by decide
/-- V-LOAD16, `POP AF` drops the low four bits. -/
theorem test_pop_af_drops_low_bits :
    (after (busWrite 0xC101 0x9A (busWrite 0xC100 0xFF { start with cpu.sp := 0xC100 })) 8 0xF1).map
      (fun t => (t.cpu.sp, seen t)) = some (0xC102, 0x9A, 0xF0, 0x0101, 3) := by decide
/-- V-LOAD16, `LD HL,SP+e` with e = 80. -/
theorem test_ld_hl_sp_negative :
    (after { start with cpu.sp := 0xD080 } 16 0x80F8).map (fun t => (t.cpu.hl, t.cpu.flags.toByte, t.cycles)) =
      some (0xD000, 0x10, 3) := by decide
/-- V-ALU8, `ADD A,B`: 3A + C6. -/
theorem test_add_wraps : (after { start with cpu.a := 0x3A, cpu.b := 0xC6 } 8 0x80).map seen = some (0x00, 0xB0, 0x0101, 1) := by
  decide
/-- V-ALU8, `SBC A,E`: 00 - FF - 1. -/
theorem test_sbc_borrows_in :
    (after { start with cpu.a := 0x00, cpu.e := 0xFF, cpu.flags := Flags.ofByte 0x10 } 8 0x9B).map seen =
      some (0x00, 0xF0, 0x0101, 1) := by decide
/-- V-ALU8, `CP B`: A is kept. -/
theorem test_cp_keeps_a : (after { start with cpu.a := 0x10, cpu.b := 0x20 } 8 0xB8).map seen = some (0x10, 0x50, 0x0101, 1) := by
  decide
/-- The document's scenario 1 (T6). -/
theorem test_inc_a_scenario :
    (after { start with cpu.a := 0xFF, cpu.flags := Flags.ofByte 0x10 } 8 0x3C).map seen = some (0x00, 0xB0, 0x0101, 1) := by
  decide
/-- V-ALU8, `DEC (HL)`. -/
theorem test_dec_at_hl :
    (after (busWrite 0xC000 0x00 { start with cpu.h := 0xC0, cpu.l := 0x00 }) 8 0x35).map
      (fun t => (busRead t 0xC000, t.cpu.flags.toByte, t.cycles)) = some (0xFF, 0x60, 3) := by decide
/-- V-ALU8, `DAA` after a subtraction. -/
theorem test_daa_subtract :
    (after { start with cpu.a := 0x00, cpu.flags := Flags.ofByte 0x70 } 8 0x27).map seen = some (0x9A, 0x50, 0x0101, 1) := by decide
/-- V-ALU8, `DAA` of 9A. -/
theorem test_daa_both_digits : (after { start with cpu.a := 0x9A } 8 0x27).map seen = some (0x00, 0x90, 0x0101, 1) := by decide
/-- V-ALU16, `ADD HL,HL`. -/
theorem test_add_hl_hl :
    (after { start with cpu.h := 0x80, cpu.l := 0x00 } 8 0x29).map (fun t => (t.cpu.hl, t.cpu.flags.toByte, t.cycles)) =
      some (0x0000, 0x10, 2) := by decide
/-- V-ALU16, `DEC DE` keeps every flag. -/
theorem test_dec_de :
    (after { start with cpu.d := 0x00, cpu.e := 0x00, cpu.flags := Flags.ofByte 0xF0 } 8 0x1B).map
      (fun t => (t.cpu.de, t.cpu.flags.toByte, t.cycles)) = some (0xFFFF, 0xF0, 2) := by decide
/-- V-ALU16, `ADD SP,e` with e = F0. -/
theorem test_add_sp :
    (after { start with cpu.sp := 0xD010, cpu.flags := Flags.ofByte 0xC0 } 16 0xF0E8).map
      (fun t => (t.cpu.sp, t.cpu.flags.toByte, t.cycles)) = some (0xD000, 0x10, 4) := by decide
/-- V-ROT, `RLA`. -/
theorem test_rla : (after { start with cpu.a := 0x80 } 8 0x17).map seen = some (0x00, 0x10, 0x0101, 1) := by decide
/-- V-ROT, `RL (HL)`. -/
theorem test_rl_at_hl :
    (after (busWrite 0xC000 0x7F { start with cpu.h := 0xC0, cpu.l := 0x00, cpu.flags := Flags.ofByte 0x10 }) 16 0x16CB).map
      (fun t => (busRead t 0xC000, t.cpu.flags.toByte, t.cycles)) = some (0xFF, 0x00, 4) := by decide
/-- V-ROT, `SRA A`. -/
theorem test_sra : (after { start with cpu.a := 0x81 } 16 0x2FCB).map seen = some (0xC0, 0x10, 0x0102, 2) := by decide
/-- V-ROT, `SWAP B`. -/
theorem test_swap :
    (after { start with cpu.b := 0xF1, cpu.flags := Flags.ofByte 0xF0 } 16 0x30CB).map (fun t => (t.cpu.b, seen t)) =
      some (0x1F, 0x01, 0x00, 0x0102, 2) := by decide
/-- V-ROT, `BIT 7,H`. -/
theorem test_bit :
    (after { start with cpu.h := 0x7F, cpu.flags := Flags.ofByte 0x10 } 16 0x7CCB).map seen = some (0x01, 0xB0, 0x0102, 2) := by
  decide
/-- V-ROT, `RES 0,A`. -/
theorem test_res :
    (after { start with cpu.a := 0xFF, cpu.flags := Flags.ofByte 0xF0 } 16 0x87CB).map seen = some (0xFE, 0xF0, 0x0102, 2) := by
  decide
/-- V-CTRL, `JR e` with e = 80, wrapping. -/
theorem test_jr_wraps : (after { start with cpu.pc := 0x0010 } 16 0x8018).map seen = some (0x01, 0x00, 0xFF92, 3) := by decide
/-- V-CTRL, `JP NZ,nn` not taken. -/
theorem test_jp_not_taken :
    (after { start with cpu.flags := Flags.ofByte 0x80 } 24 0x0150C2).map seen = some (0x01, 0x80, 0x0103, 3) := by decide
/-- V-CTRL, `CALL nn`. -/
theorem test_call :
    (after { start with cpu.sp := 0xD000 } 24 0x0200CD).map
      (fun t => (busRead t 0xCFFF, busRead t 0xCFFE, t.cpu.sp, t.cpu.pc, t.cycles)) = some (0x01, 0x03, 0xCFFE, 0x0200, 6) := by
  decide
/-- V-CTRL, `RETI`. -/
theorem test_reti :
    (after (busWrite 0xCFFF 0x01 (busWrite 0xCFFE 0x03 { start with cpu.sp := 0xCFFE })) 8 0xD9).map
      (fun t => (t.cpu.ime, t.cpu.sp, t.cpu.pc, t.cycles)) = some (true, 0xD000, 0x0103, 4) := by decide
/-- V-CTRL, `RST 28` at 0028. -/
theorem test_rst :
    (after { start with cpu.pc := 0x0028, cpu.sp := 0xD000 } 8 0xEF).map
      (fun t => (busRead t 0xCFFF, busRead t 0xCFFE, t.cpu.pc, t.cycles)) = some (0x00, 0x29, 0x0028, 4) := by decide
/-- SY1, step 2: the deferred enable is consumed, no interrupt is taken. -/
theorem test_ei_is_deferred :
    (after { start with cpu.eiDelay := true, irq.ifr := 0b00100, irq.ie := 0x04 } 8 0x00).map
      (fun t => (t.cpu.ime, t.cpu.eiDelay, t.cpu.pc, t.irq.ifr, t.cycles)) = some (true, false, 0x0101, 0b00100, 1) := by decide
/-- SY9, the row of the speed switch. -/
theorem test_stop_switches_speed :
    (after { State.resetOf (Profile.recommended .color) { Params.ofReset with mode := .color } Cart.ofReset with
        cpu.speedArmed := true, irq.ifr := 0, timer.div16 := 0x1234, joypad.sel := 0b11, joypad.joy := 0x01 } 8 0x10).map
      (fun t => (t.cpu.pc, t.timer.div16, t.cpu.speed, t.cpu.status, t.sound.fsStep, t.cycles)) =
      some (0x0102, 0x0000, .double, .active, 1, 1) := by decide
/-- SY11, an undefined opcode. -/
theorem test_undefined_opcode :
    (after start 8 0xDD).map (fun t => (t.cpu.fault, t.cpu.pc, t.cycles)) =
      some (some (.unimplementedOpcode 0xDD 0x0100), 0x0101, 1) := by decide
/-- IR1, two lines pending; the NOP is at the vector. -/
theorem test_dispatch_priority :
    (after { start with cpu.ime := true, cpu.pc := 0x1234, cpu.sp := 0xD000, irq.ifr := 0b00101, irq.ie := 0x05 } 8 0x00).map
      (fun t => (t.cpu.pc, t.cpu.sp, t.irq.ifr, t.cpu.ime, t.cycles)) = some (0x0041, 0xCFFE, 0b00100, false, 6) := by decide
/-- IR2, the collision with the enable register. -/
theorem test_dispatch_aborts :
    (after { start with cpu.ime := true, cpu.pc := 0x0234, cpu.sp := 0x0000, irq.ifr := 0b00100, irq.ie := 0x04 } 8 0x00).map
      (fun t => (t.cpu.pc, t.cpu.sp, t.irq.ifr, t.irq.ie, busRead t 0xFFFE)) = some (0x0001, 0xFFFE, 0b00100, 0x02, 0x34) := by
  decide
/-- TM13, a write to TIMA in the overflow cycle cancels the reload. -/
theorem test_tima_write_cancels_reload :
    (after { start with cpu.a := 0x33, timer := ⟨0x0004, 0xFF, 0x80, 5, false⟩, irq.ifr := 0 } 16 0x05E0).map
      (fun t => (t.timer.div16, t.timer.tima, t.timer.reloadPending, t.irq.ifr)) = some (0x0010, 0x33, false, 0) := by decide
/-- SN2, a trigger keeps a nonzero length. -/
theorem test_trigger :
    let t := busWrite 0xFF14 0x80 (busWrite 0xFF11 0x3E (busWrite 0xFF12 0xF0 start))
    (t.sound.ch1.length, t.sound.ch1.enabled, t.sound.ch1.volume, t.sound.ch1.envTimer, t.sound.ch1.freqTimer) =
      (2, true, 15, 8, 8192) := by decide
/-- SN12, an envelope of period 3 moves the volume on its third step-7 event; and 61_timer_and_sound.md R483, a write to NR12 does
not touch an envelope that runs. -/
theorem test_envelope :
    let t := busWrite 0xFF12 0xF9 (busWrite 0xFF14 0x80 (busWrite 0xFF12 0xF3 start))
    let event (u : Sound) : Sound := { u with fsStep := 7 }.frameSequencerStep
    let u := event (event (event t.sound))
    (u.ch1.volume, u.ch1.envTimer) = (14, 3) := by decide
/-- SN16, with a period of 0 a step-7 event changes neither volume nor timer (R504). -/
theorem test_envelope_period_zero :
    let t := busWrite 0xFF14 0x80 (busWrite 0xFF12 0xF0 start)
    let u := { t.sound with fsStep := 7 }.frameSequencerStep
    (u.ch1.volume, u.ch1.envTimer) = (15, 8) := by decide
/-- MB10, a bank of work RAM selected with 0A is bank 2, seen through the echo too. -/
theorem test_work_ram_bank :
    let s := State.resetOf (Profile.recommended .color) { Params.ofReset with mode := .color } Cart.ofReset
    let t := busWrite 0xFF70 0x0A (busWrite 0xFF70 0x00 (busWrite 0xD000 0x22 (busWrite 0xFF70 0x02 s)))
    (busRead t 0xD000, busRead t 0xF000, busRead t 0xFF70) = (0x22, 0x22, 0xFA) := by decide
/-- PX1, cycles 20 and 114. -/
theorem test_scanline :
    ((Ppu.reset.advance 80).1.mode, (Ppu.reset.advance 456).1.ly, (Ppu.reset.advance 456).1.mode) =
      (.pixelTransfer, 1, .oamScan) := by decide

/-! ## Witnesses: every statement with hypotheses is about some state -/

/-- The state that runs a NOP. -/
def nopState : State := State.reset.withFetchWord 8 0x00

theorem nopState_inv : nopState.Inv where
  memory := ⟨⟨.nil, .nil, .nil, .nil, .nil, .nil, .nil⟩, by decide, .nil⟩
  frame := ⟨by decide, by decide, by decide⟩
  mono := fun _ => ⟨by decide, by decide, by decide, by decide, by decide⟩
  sound := ⟨by decide, by decide, by decide, by decide, by decide, by decide, by decide, by decide, by decide, by decide, by decide⟩
  clock := by unfold Cart.ClockInSecond; decide

theorem witness_DecodeOfEncodeIsTheInstruction : (Instr.ldAn 0x7F).wellFormed = true := by decide
theorem witness_EncodeOfDecodeIsTheBytes : decode [0x3E, 0x7F, 0xC9] = .ok (.ldAn 0x7F, [0xC9]) := rfl
theorem witness_StepRunsTheDecodedInstruction :
    let first := fetch8 (interruptCheck (joypadEvaluate nopState))
    let others := fetchBytes (primaryRow first.1).more first.2
    nopState.cpu.fault = none ∧ nopState.cpu.status = .active ∧ decode (first.1 :: others.1) = .ok (.nop, []) :=
  ⟨by decide, by decide, rfl⟩
theorem witness_StepStopsOnlyAtAFault :
    State.reset.cpu.fault = none ∧
    (raiseFatal (.unimplementedOpcode 0xDD 0x0100) State.reset).cpu.fault = some (.unimplementedOpcode 0xDD 0x0100) := by decide
/-- The run of one NOP ends at the address after it (00_scope.md R22). -/
theorem test_run_ends : EndsAt 0x0101 1 nopState := by
  refine ⟨⟨_, rfl, by decide, by decide, by decide⟩, fun m t h => ?_⟩
  obtain rfl : m = 0 := by omega
  intro e
  cases e
  rintro ⟨h, -, -⟩
  exact absurd h (by decide)
theorem witness_WaitingSteps :
    let s (x : Status) : State := { State.reset with cpu.status := x }
    let pending (t : State) : BitVec 5 := (cycle (joypadEvaluate t)).irq.ifr &&& (cycle (joypadEvaluate t)).irq.ie.extractLsb' 0 5
    (s .paused).cpu.status = .paused ∧ (s .stopped).joypad.lines = 0b1111 ∧
    { s .stopped with joypad.joy := 0x10 }.joypad.lines ≠ 0b1111 ∧
    pending (s .halted) = 0 ∧ pending { s .halted with irq.ie := 0x01 } ≠ 0 := by decide
theorem witness_JoypadRequestsOnAFallingLine :
    let held : State := { State.reset with joypad.joy := 0x01 }
    (0 < 4 ∧ held.joypad.prev.getLsbD 0 = true ∧ held.joypad.lines.getLsbD 0 = false) ∧
    (∀ k : Fin 4, State.reset.joypad.prev.getLsbD k = true → State.reset.joypad.lines.getLsbD k = true) := by decide
theorem witness_InterruptCheckServesTheLowestLine :
    let s : State := { State.reset with cpu.ime := true, irq.ie := 0x1F }
    let only (l : Line) : State := { s with irq.ifr := l.mask }
    State.reset.cpu.ime = false ∧ s.cpu.eiDelay = false ∧ s.cpu.ime = true ∧
    { s with irq.ie := 0x1E }.irq.ifr &&& (0x1E : Byte).extractLsb' 0 5 = 0 ∧
    ∀ l ∈ [Line.vblank, .stat, .timer, .serial, .joypad],
      (only l).irq.ifr.getLsbD l.index = true ∧ (only l).irq.ie.getLsbD l.index = true ∧
      ∀ k : Fin 5, k.val < l.index → ¬ ((only l).irq.ifr.getLsbD k = true ∧ (only l).irq.ie.getLsbD k = true) := by decide
theorem witness_DispatchGoesToTheVector :
    let collides : State := { State.reset with cpu.sp := 0x0000, cpu.pc := 0x0234, irq.ifr := 0b00100 }
    (collides.cpu.sp = 0 ∧ (hi collides.cpu.pc).getLsbD Line.timer.index = false ∧
      collides.irq.ifr.getLsbD Line.timer.index = true) ∧
    ¬ (State.reset.cpu.sp = 0 ∧ (hi State.reset.cpu.pc).getLsbD Line.timer.index = false) := by decide

theorem plain_reset : State.reset.Plain (State.reset.cpu.sp - 1) ∧ State.reset.Plain (State.reset.cpu.sp - 2) :=
  ⟨⟨(.hram, 0x7D), by decide⟩, ⟨(.hram, 0x7C), by decide⟩⟩

theorem witness_RetiResumesAfterADispatch :
    State.reset.Plain (State.reset.cpu.sp - 1) ∧ State.reset.Plain (State.reset.cpu.sp - 2) ∧ State.reset.hdma.active = false :=
  ⟨plain_reset.1, plain_reset.2, rfl⟩
theorem witness_PopReturnsWhatPushStored :
    State.reset.Plain (State.reset.cpu.sp - 1) ∧ State.reset.Plain (State.reset.cpu.sp - 2) ∧ State.reset.hdma.active = false :=
  ⟨plain_reset.1, plain_reset.2, rfl⟩
theorem witness_DecimalAdjust :
    let s (n : Bool) : State := { State.reset with cpu.a := 0x45, cpu.b := 0x38, cpu.flags := { z := false, n, h := false, c := false } }
    (s false).cpu.flags.n = false ∧ (s true).cpu.flags.n = true ∧ (s false).cpu.a = bcd 45 ∧ (s false).cpu.b = bcd 38 := by decide
theorem witness_NopHaltAndTheInterruptEnable : { State.reset with cpu.eiDelay := true }.cpu.eiDelay = true := by decide
theorem witness_StopFollowsItsTable :
    let button (s : State) : Bool := decide (s.joypad.lines ≠ 0b1111)
    let armed (s : State) : Bool := decide (s.cpu.speedArmed = true ∧ s.cfg.mode = .color)
    let pending (s : State) : Bool := decide (s.irq.ifr &&& s.irq.ie.extractLsb' 0 5 ≠ 0)
    let s (b a p : Bool) : State := { State.reset with
      joypad.joy := if b then 0x01 else 0x00, cpu.speedArmed := a, cfg.mode := .color, irq.ie := if p then 0x01 else 0x00 }
    ∀ b a p, button (s b a p) = b ∧ armed (s b a p) = a ∧ pending (s b a p) = p := by decide
theorem witness_UndefinedOpcodesFault : (0xD3, .illegalD3) ∈ illegals ∧ (0xFD, .illegalFD) ∈ illegals := by decide
theorem witness_StepKeepsTheInvariant : nopState.Inv ∧ ∃ t, step nopState = .next t := ⟨nopState_inv, _, rfl⟩
theorem witness_StepKeepsWhatTheLaunchFixed : ∃ t, step nopState = .next t := ⟨_, rfl⟩

/-- What a host may supply. -/
def hostArgs : LaunchArgs where
  force := none
  fill := 0xFF
  irqTail := true
  sampleInterval := 95
  sampleBlock := 512
  reset := none
  xram := []
  save := none
  clock := Clock.zero

/-- An image of zeros of so many bytes, at least 0x14A, but for its type code and RAM size code. -/
def imageOf (size : Nat) (kind ram : Byte) : List Byte :=
  List.replicate 0x147 0 ++ [kind, 0, ram] ++ List.replicate (size - 0x14A) 0

theorem imageOf_length {size : Nat} (kind ram : Byte) (h : 0x14A ≤ size) : (imageOf size kind ram).length = size := by
  simp only [imageOf, List.length_append, List.length_replicate, List.length_cons, List.length_nil]
  omega

theorem imageOf_codes (size : Nat) (kind ram : Byte) :
    (imageOf size kind ram).getD 0x143 0 = 0 ∧ (imageOf size kind ram).getD 0x147 0 = kind ∧
    (imageOf size kind ram).getD 0x148 0 = 0 ∧ (imageOf size kind ram).getD 0x149 0 = ram := by
  refine ⟨?_, ?_, ?_, ?_⟩ <;> simp [imageOf, List.getElem?_append, List.getElem?_replicate]

theorem imageOf_fits : imageFits (imageOf 0x8000 0 5) = true := by
  have c := imageOf_codes 0x8000 0 5
  unfold imageFits readHeader
  rw [imageOf_length 0 5 (by decide)]
  dsimp only
  rw [c.2.2.1, c.2.2.2]
  decide

theorem image_launches : ∃ s, launch (imageOf 0x8000 0 5) hostArgs = .ok s := by
  have f : featuresOf (readHeader (imageOf 0x8000 0 5)).typeCode =
      some { kind := .romOnly, ram := false, battery := false, clock := false } := by
    show featuresOf ((imageOf 0x8000 0 5).getD 0x147 0) = _
    rw [(imageOf_codes 0x8000 0 5).2.1]
    rfl
  unfold launch
  simp only [imageOf_fits, if_true, f]
  exact ⟨_, rfl⟩

/-- 62_boundary_units.md R562, R570: a ROM-only cartridge has the RAM banks its header declares, whatever its type code says. -/
theorem test_rom_only_ram :
    [0, 1, 2, 3, 4, 5].map (fun code : Nat => ramBanksFor { kind := .romOnly, ram := false, battery := false, clock := false }
      (BitVec.ofNat 8 code)) = [0, 0, 1, 4, 16, 8] := by decide

theorem recommended_fits_mono : (Profile.recommended .mono).Fits Params.ofReset where
  ram := ⟨.nil, .nil, .nil, .nil, .nil, .nil, .nil⟩
  frame := ⟨by decide, by decide, by decide⟩
  mono := fun _ => ⟨by decide, by decide, by decide, by decide, by decide⟩
  sound := ⟨by decide, by decide, by decide, by decide, by decide, by decide, by decide, by decide, by decide, by decide, by decide⟩

theorem witness_ResetHasTheInvariant :
    (hostArgs.xram.wf ∧ hostArgs.clock.subsec < ticksPerSecond ∧ (∀ p, hostArgs.reset = some p → p.Fits Params.ofReset) ∧
      ∃ s, launch (imageOf 0x8000 0 5) hostArgs = .ok s) ∧
    ∃ p, { hostArgs with reset := some (Profile.recommended .mono) }.reset = some p ∧ p.Fits Params.ofReset :=
  ⟨⟨.nil, by decide, (by rintro p ⟨⟩), image_launches⟩, _, rfl, recommended_fits_mono⟩

/-- An instruction that stores nothing. -/
theorem witness_InstructionsStoreOnlyWhereTheySay_none (a : Word) : ¬ StoresTo .nop State.reset a := by
  rintro (⟨h, -⟩ | ⟨h, -⟩ | ⟨h, -⟩ | h | ⟨h, -⟩ | ⟨n, h, -⟩ | ⟨nn, h, -⟩ | ⟨h, -⟩)
  · rcases h with ⟨r, h⟩ | ⟨n, h⟩ | h | h | h | h | ⟨op, h⟩ | ⟨k, h⟩ | ⟨k, h⟩ | ⟨op2, h, -⟩
    · cases r <;> cases h
    · cases h
    · cases h
    · cases h
    · cases h
    · cases h
    · cases op <;> cases h
    · cases k <;> cases h
    · cases k <;> cases h
    · cases h
  · cases h
  · cases h
  · cases h
  · cases h
  · cases h
  · cases h
  · rcases h with ⟨q, h⟩ | ⟨k, h⟩ | ⟨nn, h⟩ | ⟨cc, nn, h, -⟩
    · cases q <;> cases h
    · cases k <;> cases h
    · cases h
    · cases cc <;> cases h

/-- An instruction that stores two bytes to plain memory. -/
theorem witness_InstructionsStoreOnlyWhereTheySay_two :
    State.reset.hdma.active = false ∧ ∀ a, StoresTo (.ldMnnSP 0xC000) State.reset a → State.reset.Plain a := by
  refine ⟨rfl, ?_⟩
  rintro a (⟨h, -⟩ | ⟨h, -⟩ | ⟨h, -⟩ | h | ⟨h, -⟩ | ⟨n, h, -⟩ | ⟨nn, h, ha⟩ | ⟨h, -⟩)
  · rcases h with ⟨r, h⟩ | ⟨n, h⟩ | h | h | h | h | ⟨op, h⟩ | ⟨k, h⟩ | ⟨k, h⟩ | ⟨op2, h, -⟩
    · cases r <;> cases h
    · cases h
    · cases h
    · cases h
    · cases h
    · cases h
    · cases op <;> cases h
    · cases k <;> cases h
    · cases k <;> cases h
    · cases h
  · cases h
  · cases h
  · cases h
  · cases h
  · cases h
  · cases h
    rcases ha with rfl | rfl
    · exact ⟨(.wram, 0), by decide⟩
    · exact ⟨(.wram, 1), by decide⟩
  · rcases h with ⟨q, h⟩ | ⟨k, h⟩ | ⟨nn, h⟩ | ⟨cc, nn, h, -⟩
    · cases q <;> cases h
    · cases k <;> cases h
    · cases h
    · cases cc <;> cases h

theorem witness_ControlStateChangesOnlyWhereStated :
    Instr.nop ≠ .di ∧ Instr.nop ≠ .reti ∧ Instr.nop ≠ .ei ∧ Instr.nop ≠ .halt ∧ Instr.nop ≠ .stop ∧
    ∀ op, (op, Instr.nop) ∉ illegals := by
  refine ⟨by decide, by decide, by decide, by decide, by decide, fun op h => ?_⟩
  simp [illegals] at h
theorem witness_CycleMovesOnlyTheClockedUnits :
    State.reset.irq.ifr.getLsbD 0 = true ∧ State.reset.place 0xC000 = some (.wram, 0) ∧ (Store.wram, 0).1 ≠ .vram ∧
    State.reset.place 0x8000 = some (.vram, 0) ∧ State.reset.hdma.active = false := by decide
/-- The last dots before vertical blank, at both speeds, and the dots at which a cycle does not reach it. -/
theorem witness_CycleMovesOnlyTheClockedUnits_vblank :
    ({ Ppu.reset with ly := 143, dot := 452, mode := .hblank }.InFrame ∧ 456 ≤ 452 + 4) ∧
    ({ Ppu.reset with ly := 143, dot := 454, mode := .hblank }.InFrame ∧ 456 ≤ 454 + 2) ∧ ¬ 456 ≤ 451 + 4 :=
  ⟨⟨⟨by decide, by decide, by decide⟩, by decide⟩, ⟨⟨by decide, by decide, by decide⟩, by decide⟩, by decide⟩
/-- 20_memory.md R147, the cycle that enters vertical blank requests line 0. -/
theorem test_vblank_request :
    (cycle { State.reset with irq.ifr := 0, ppu := { Ppu.reset with ly := 143, dot := 452, mode := .hblank } }).irq.ifr = 0b00001 := by
  decide
theorem witness_StoredByteReadsBack :
    State.reset.place 0xDDFF = some (.wram, 0x1DFF) ∧ State.reset.place 0xFDFF = some (.wram, 0x1DFF) ∧ Store.wram ≠ .rom := by
  decide
theorem witness_EveryAddressHasOneRegion :
    (∀ r ∈ [Region.rom, .vram, .xram, .wram0, .wramX, .echo, .oam, .unusable, .io, .hram, .ie],
      regionOf (BitVec.ofNat 16 (regionRange r).1) = r ∧ regionOf (BitVec.ofNat 16 (regionRange r).2) = r) := by decide
theorem witness_UnmappedAddressesReadFill :
    regionOf 0xFEA0 = .unusable ∧ regionOf 0xFEFF = .unusable ∧ State.reset.cfg.mode = .mono ∧
    (∀ off ∈ [0x03, 0x08, 0x0E, 0x15, 0x1F, 0x27, 0x2F, 0x4C, 0x4E, 0x50, 0x56, 0x67, 0x6C, 0x6F, 0x71, 0x7F], unmapped off) ∧
    (∀ off ∈ [0x4D, 0x4F, 0x51, 0x55, 0x68, 0x6B, 0x70], colorOnly off) ∧ ∀ off, ¬ (unmapped off ∧ colorOnly off) := by
  refine ⟨by decide, by decide, by decide, ?_, ?_, ?_⟩
  · simp [unmapped]
  · simp [colorOnly]
  · unfold unmapped colorOnly; omega

/-- The reset state of the color console. -/
def color : State := State.resetOf (Profile.recommended .color) { Params.ofReset with mode := .color } Cart.ofReset

theorem witness_RegistersReadAsTheTableSays : color.cfg.mode = .color ∧ 0x51 ≤ 0x51 ∧ 0x54 ≤ 0x54 := by decide
theorem witness_TimerCountsFallingEdges :
    let s (d : Word) (tima : Byte) (p : Bool) : State := { State.reset with timer := ⟨d, tima, 0x80, 5, p⟩ }
    let falls (s : State) : Prop := s.timer.tac.getLsbD 2 = true ∧
      s.timer.div16.toNat % 2 ^ (selectedBit (s.timer.tac.toNat % 4) + 1) + 4 ≥ 2 ^ (selectedBit (s.timer.tac.toNat % 4) + 1)
    (¬ falls (s 0x0008 0xFF false)) ∧ falls (s 0x000C 0xFE false) ∧ falls (s 0x000C 0xFF false) ∧ ¬ falls (s 0x0000 0x00 true) := by
  decide
theorem witness_VramBlockCopy : ∀ j, j < 16 → regionOf (0xC000 + BitVec.ofNat 16 j) ≠ .vram := by decide
theorem witness_VramTransferRegisters :
    color.cfg.mode = .color ∧ color.hdma.active = false ∧ { color with hdma.active := true }.hdma.active = true ∧
    (0x05 : Byte).getLsbD 7 = false ∧ (0x85 : Byte).getLsbD 7 = true := by decide
theorem witness_PaletteRegisters : color.cfg.mode = .color ∧ (1 : Nat) ≠ color.bus.bcps.idx.toNat := by decide
theorem witness_StatusLineRequestsOnItsRise :
    let hot : State := { State.reset with ppu.statEn := 0b1000 }
    ¬ (State.reset.ppu.statEn.getLsbD 3 = true ∧ BitVec.ofNat 8 State.reset.ppu.ly = State.reset.ppu.lyc) ∧
    (hot.ppu.statEn.getLsbD 3 = true ∧ BitVec.ofNat 8 hot.ppu.ly = hot.ppu.lyc) ∧ hot.bus.statLine = false ∧
    { hot with bus.statLine := true }.bus.statLine = true := by decide
theorem witness_TriggerKeepsANonzeroLength : State.reset.sound.power = true ∧ (0x80 : Byte).getLsbD 7 = true := by decide
theorem witness_SoundPower :
    { State.reset with sound.power := false }.sound.power = false ∧ State.reset.sound.power = true ∧
    State.reset.sound.power = (0x80 : Byte).getLsbD 7 ∧
    (0x7F : Byte).getLsbD 7 = false ∧ (0x80 : Byte).getLsbD 7 = true := by decide
theorem witness_FrameSequencerSchedule :
    let u (n : BitVec 3) : Sound := { Sound.reset with fsStep := n }
    (u 0).power = true ∧ { u 0 with power := false }.power = false ∧
    ∀ n : Fin 8, (u (BitVec.ofNat 3 n)).fsStep.toNat = n := by decide
/-- One envelope for each clause, at the ends of the timer's ranges. -/
theorem witness_EnvelopeMoves :
    let idle : Envelope := { up := true, period := 0 }
    let runs : Envelope := { up := true, period := 7 }
    idle.period = 0 ∧ runs.period ≠ 0 ∧ 2 ≤ (2 : BitVec 4).toNat ∧ (1 : BitVec 4).toNat ≤ 1 ∧ (0 : BitVec 4).toNat ≤ 1 := by
  decide
/-- One sweep for each clause: not due, idle, overflowing from 2047, without a shift, and stored. -/
theorem witness_SweepMoves :
    let w : Sweep := { shadow := 0x7FF, enabled := true, timer := 1 }
    let at_ (nr10 : Byte) : Nat × Nat × Nat := (nr10.toNat / 16 % 8, nr10.toNat % 8, swept w.shadow.toNat nr10)
    (2 ≤ (2 : BitVec 4).toNat ∧ w.timer.toNat ≤ 1) ∧ (at_ 0x01).1 = 0 ∧ (w.enabled = true ∧ (at_ 0x11).1 ≠ 0) ∧
    (at_ 0x11).2.2 > 2047 ∧ ((at_ 0x18).2.2 ≤ 2047 ∧ (at_ 0x18).2.1 = 0) ∧ ((at_ 0x19).2.2 ≤ 2047 ∧ (at_ 0x19).2.1 ≠ 0) := by
  decide
theorem witness_FrameIs70224Dots : Ppu.reset.InFrame := ⟨by decide, by decide, by decide⟩
theorem witness_ScanlineScenario : Ppu.reset.ly = 0 ∧ Ppu.reset.dot = 0 ∧ Ppu.reset.mode = .oamScan := by decide
theorem witness_BankSelectScenario :
    let s : State := { State.reset with cart := Cart.reset .controller1 8 0 false false Clock.zero [] [] }
    s.cart.kind = .controller1 ∧ s.cart.romBanks = 8 ∧ s.cart.bankHi = 0 := by decide
theorem witness_BanksStayInTheImage :
    let c (kind : Controller) (enable : Bool) (banks : Nat) (sel : Byte) : Cart :=
      { Cart.reset kind 2 banks false false Clock.zero [] [] with ramEnable := enable, sel := sel }
    regionOf 0x7FFF = .rom ∧ regionOf 0xA000 = .xram ∧
    (∀ q ∈ [0, 1, 2, 3], (BitVec.ofNat 16 (q * 0x2000) : Word).toNat / 0x2000 = q ∧
      (BitVec.ofNat 16 (q * 0x2000 + 0x1FFF) : Word).toNat / 0x2000 = q) ∧
    ((0x2FFF : Word).toNat < 0x3000 ∧ ¬ (0x3000 : Word).toNat < 0x3000) ∧ 2 ≤ (c .romOnly true 1 0).romBanks ∧
    (∀ k ∈ [Controller.romOnly, .controller1, .controller3, .controller5],
      (c k true 4 7).kind = k ∧ (c k true 4 7).ramEnable = true ∧ 0 < (c k true 4 7).ramBanks ∧
      (c k false 4 7).ramEnable = false ∧ (c k true 0 7).ramBanks = 0 ∧ (c k true 4 7).sel.toNat ≤ 7) ∧
    (0x08 ≤ (c .controller3 true 4 8).sel.toNat ∧ (c .controller3 true 4 8).hasClock = false) ∧
    0x0D ≤ (c .controller3 true 4 0x0D).sel.toNat := by decide
theorem witness_ClockCountsSeconds :
    let c (sel : Byte) : Cart := { Cart.reset .controller3 2 0 true true Clock.zero [] [] with ramEnable := true, sel := sel }
    (clockInRange Clock.zero ∧ clockInRange { Clock.zero with seconds := 59, minutes := 59, hours := 23, day := 511 }) ∧
    (∀ sel ∈ [0x08, 0x09, 0x0A, 0x0B, 0x0C], (c sel).sel = sel ∧ (c sel).kind = .controller3 ∧ (c sel).hasClock = true ∧
      (c sel).ramEnable = true ∧ (c sel).clock.halt = false) ∧
    ({ c 0 with clock.halt := true }.clock.halt = true ∧ { c 0 with ramEnable := false }.ramEnable = false) ∧
    0xA000 ≤ (0xBFFF : Word).toNat ∧ (0xBFFF : Word).toNat < 0xC000 ∧
    Clock.zero.subsec + 4194303 < 4194304 ∧ ¬ Clock.zero.subsec + 4194304 < 4194304 := by
  unfold clockInRange
  decide

/-- An image that is short, by the launch's rule. -/
def short (image : List Byte) : Prop :=
  image.length < 0x150 ∨ image.length < 2 * 2 ^ (image.getD 0x148 0).toNat * 0x4000 ∨ 5 < (image.getD 0x149 0).toNat

theorem short_imageOf {size : Nat} (kind ram : Byte) (h : 0x14A ≤ size) :
    short (imageOf size kind ram) ↔ size < 0x8000 ∨ 5 < ram.toNat := by
  have c := imageOf_codes size kind ram
  simp only [short, imageOf_length kind ram h, c.2.2.1, c.2.2.2]
  rw [show (0 : Byte).toNat = 0 from rfl]
  omega

/-- Each clause: too short for a header by one byte, and just long enough for one; one byte short of two banks; RAM size codes 5
and 6; an unknown type code; a known one. -/
theorem witness_LaunchRejectsBadImages :
    ((imageOf 0x14F 0 0).length < 0x150 ∧ ¬ (imageOf 0x150 0 0).length < 0x150 ∧ short (imageOf 0x150 0 0)) ∧
    (short (imageOf 0x7FFF 0 0) ∧ ¬ short (imageOf 0x8000 0 5) ∧ short (imageOf 0x8000 0 6)) ∧
    (¬ short (imageOf 0x8000 0x04 0) ∧ ((imageOf 0x8000 0x04 0).getD 0x147 0).toNat = 0x04) ∧
    ((imageOf 0x8000 0 5).getD 0x147 0).toNat = 0x00 ∧ hostArgs.reset = none := by
  refine ⟨⟨?_, ?_, ?_⟩, ⟨?_, ?_, ?_⟩, ⟨?_, ?_⟩, ?_, rfl⟩
  · rw [imageOf_length _ _ (by decide)]; decide
  · rw [imageOf_length _ _ (by decide)]; decide
  · exact (short_imageOf 0 0 (by decide)).2 (by decide)
  · exact (short_imageOf 0 0 (by decide)).2 (by decide)
  · exact fun h => absurd ((short_imageOf 0 5 (by decide)).1 h) (by decide)
  · exact (short_imageOf 0 6 (by decide)).2 (by decide)
  · exact fun h => absurd ((short_imageOf 0x04 0 (by decide)).1 h) (by decide)
  · rw [(imageOf_codes 0x8000 0x04 0).2.1]; decide
  · rw [(imageOf_codes 0x8000 0 5).2.1]; decide
theorem witness_ResetLeavesTheProfile : Params.ofReset.mode = .mono ∧ { Params.ofReset with mode := .color }.mode = .color := by
  decide

end Sys2Proof.Tests
end

/-! PROOF. The instruction set by the rows of the opcode table: the meaning of each row, and the principle that what holds of
every row holds of every instruction. -/

namespace Sys2Proof

/-! ## The decoder reads what the encoder writes -/

theorem decode_imm16 {op : Byte} {k : Word → Instr} (h : primaryRow op = .imm16 k) (nn : Word) (rest : List Byte) :
    decode (op :: lo nn :: hi nn :: rest) = .ok (k nn, rest) := by
  simp [decode, h]

/-- A well-formed instruction is what the decoder reads off its bytes (30_encoding.md R184). -/
theorem decode_encode_append (i : Instr) (rest : List Byte) (h : i.wellFormed = true) :
    decode (encode i ++ rest) = .ok (i, rest) := by
  cases i with
  | prefixCB _ => cases h
  | ldMnnSP nn | ldBCnn nn | ldDEnn nn | ldHLnn nn | ldSPnn nn | ldMnnA nn | ldAMnn nn
  | jpnn nn | jpNZnn nn | jpZnn nn | jpNCnn nn | jpCnn nn
  | callnn nn | callNZnn nn | callZnn nn | callNCnn nn | callCnn nn => exact decode_imm16 rfl nn rest
  | _ => rfl

theorem Opd8.ofCode_eq_atHL {k : Nat} (h : Opd8.ofCode k = .atHL) : k = 6 := by
  unfold Opd8.ofCode at h
  split at h
  all_goals cases h
  rfl

/-! ## What holds of every row holds of every instruction -/

/-- `P` holds of every instruction a row of the primary table can give. -/
def Row.All (P : Instr → Prop) : Row → Prop
  | .plain i => P i
  | .imm8 k => ∀ n, P (k n)
  | .imm16 k => ∀ nn, P (k nn)
  | .extended => ∀ op2, P (extendedRow op2)

theorem Row.All.of_decode {P : Instr → Prop} {op : Byte} {bs rest : List Byte} {i : Instr} (h : (primaryRow op).All P)
    (hd : decode (op :: bs) = .ok (i, rest)) : P i := by
  simp only [decode] at hd
  split at hd <;> cases hd <;> simp only [*, Row.All] at h
  · exact h
  · exact h _
  · exact h _
  · exact h _

/-- `P` holds of every row of spec/opcode_table.json, the rows that differ by a field value taken together (30_encoding.md
R178, R180). -/
structure OfRows (P : Instr → Prop) : Prop where
  nop : P .nop
  stop : P .stop
  halt : P .halt
  di : P .di
  ei : P .ei
  illegal : ∀ op i, (op, i) ∈ Claims.illegals → P i
  prefixCB : ∀ op2, P (.prefixCB op2)
  ldReg : ∀ r o, P (ldRow (.reg r) o)
  ldMem : ∀ r, P (ldRow .atHL (.reg r))
  ldImm : ∀ o n, P (ldImmRow o n)
  ldAMBC : P .ldAMBC
  ldAMDE : P .ldAMDE
  ldAMnn : ∀ nn, P (.ldAMnn nn)
  ldhAMC : P .ldhAMC
  ldhAMn : ∀ n, P (.ldhAMn n)
  ldMBCA : P .ldMBCA
  ldMDEA : P .ldMDEA
  ldMnnA : ∀ nn, P (.ldMnnA nn)
  ldhMCA : P .ldhMCA
  ldhMnA : ∀ n, P (.ldhMnA n)
  ldAMHLInc : P .ldAMHLInc
  ldAMHLDec : P .ldAMHLDec
  ldMHLIncA : P .ldMHLIncA
  ldMHLDecA : P .ldMHLDecA
  ldPair : ∀ q nn, P (ldPairRow q nn)
  ldMnnSP : ∀ nn, P (.ldMnnSP nn)
  ldSPHL : P .ldSPHL
  ldHLSPe : ∀ e, P (.ldHLSPe e)
  push : ∀ q, P (pushRow q)
  pop : ∀ q, P (popRow q)
  alu : ∀ op o, P (aluRow op o)
  aluImm : ∀ op n, P (aluImmRow op n)
  inc : ∀ o, P (incRow o)
  dec : ∀ o, P (decRow o)
  daa : P .daa
  cpl : P .cpl
  scf : P .scf
  ccf : P .ccf
  addHL : ∀ q, P (addHLRow q)
  incPair : ∀ q, P (incPairRow q)
  decPair : ∀ q, P (decPairRow q)
  addSPe : ∀ e, P (.addSPe e)
  rlca : P .rlca
  rrca : P .rrca
  rla : P .rla
  rra : P .rra
  rot : ∀ op o, P (rotRow op o)
  bit : ∀ k o, P (bitRow k o)
  res : ∀ k o, P (resRow k o)
  set : ∀ k o, P (setRow k o)
  jpnn : ∀ nn, P (.jpnn nn)
  jp : ∀ cc nn, P (jpRow cc nn)
  jpHL : P .jpHL
  jre : ∀ e, P (.jre e)
  jr : ∀ cc e, P (jrRow cc e)
  callnn : ∀ nn, P (.callnn nn)
  call : ∀ cc nn, P (callRow cc nn)
  rst : ∀ k, P (rstRow k)
  ret : P .ret
  retIf : ∀ cc, P (retRow cc)
  reti : P .reti

section
variable {P : Instr → Prop} (h : OfRows P)
include h

theorem OfRows.ldRow (d o : Opd8) : P (ldRow d o) := by
  cases d with
  | reg r => exact h.ldReg r o
  | atHL =>
    cases o with
    | reg r => exact h.ldMem r
    | atHL => exact h.halt

theorem OfRows.extendedRow (op : Byte) : P (extendedRow op) := by
  unfold Sys2Proof.extendedRow
  dsimp only
  split
  · exact h.rot _ _
  · exact h.bit _ _
  · exact h.res _ _
  · exact h.set _ _

theorem OfRows.row0 (y z : Nat) : (row0 y z).All P := by
  unfold Sys2Proof.row0
  dsimp only
  split
  · split
    · exact h.nop
    · exact h.ldMnnSP
    · exact h.stop
    · exact h.jre
    · exact h.jr _
  · exact h.ldPair _
  · exact h.addHL _
  · split
    · exact h.ldMBCA
    · exact h.ldAMBC
    · exact h.ldMDEA
    · exact h.ldAMDE
    · exact h.ldMHLIncA
    · exact h.ldAMHLInc
    · exact h.ldMHLDecA
    · exact h.ldAMHLDec
  · exact h.incPair _
  · exact h.decPair _
  · exact h.inc _
  · exact h.dec _
  · exact h.ldImm _
  · split
    · exact h.rlca
    · exact h.rrca
    · exact h.rla
    · exact h.rra
    · exact h.daa
    · exact h.cpl
    · exact h.scf
    · exact h.ccf

theorem OfRows.row3 (y z : Nat) : (row3 y z).All P := by
  have bad (op : Byte) (i : Instr) (hi : (op, i) ∈ Claims.illegals := by simp [Claims.illegals]) : P i := h.illegal op i hi
  unfold Sys2Proof.row3
  dsimp only
  split
  · split
    · exact h.ldhMnA
    · exact h.addSPe
    · exact h.ldhAMn
    · exact h.ldHLSPe
    · exact h.retIf _
  · split
    · exact h.ret
    · exact h.reti
    · exact h.jpHL
    · exact h.ldSPHL
    · exact h.pop _
  · split
    · exact h.ldhMCA
    · exact h.ldMnnA
    · exact h.ldhAMC
    · exact h.ldAMnn
    · exact h.jp _
  · split
    · exact h.jpnn
    · exact h.extendedRow
    · exact bad 0xD3 _
    · exact bad 0xDB _
    · exact bad 0xE3 _
    · exact bad 0xEB _
    · exact h.di
    · exact h.ei
  · split
    · exact bad 0xE4 _
    · exact bad 0xEC _
    · exact bad 0xF4 _
    · exact bad 0xFC _
    · exact h.call _
  · split
    · exact h.callnn
    · exact bad 0xDD _
    · exact bad 0xED _
    · exact bad 0xFD _
    · exact h.push _
  · exact h.aluImm _
  · exact h.rst _

theorem OfRows.primaryRow (op : Byte) : (primaryRow op).All P := by
  unfold Sys2Proof.primaryRow
  dsimp only
  split
  · exact h.row0 _ _
  · exact h.ldRow _ _
  · exact h.alu _ _
  · exact h.row3 _ _

/-- WHAT HOLDS OF EVERY ROW HOLDS OF EVERY INSTRUCTION: the decoder reads each one off a row of its tables. -/
theorem OfRows.all (i : Instr) : P i := by
  cases hw : i.wellFormed with
  | false =>
    cases i with
    | prefixCB op2 => exact h.prefixCB op2
    | _ => cases hw
  | true =>
    have hd := decode_encode_append i [] hw
    generalize encode i ++ [] = bs at hd
    cases bs with
    | nil => cases hd
    | cons op bs => exact (h.primaryRow op).of_decode hd

end

end Sys2Proof

namespace Sys2Proof.Machine

/-! ## The meaning of each row -/

section
variable (s : State)

theorem exec_ldReg (r : Reg8) (o : Opd8) : exec (ldRow (.reg r) o) s = .next (loadOpd (.reg r) o s) := by
  rcases o with r' | _
  · cases r <;> cases r' <;> rfl
  · cases r <;> rfl
theorem exec_ldMem (r : Reg8) : exec (ldRow .atHL (.reg r)) s = .next (loadOpd .atHL (.reg r) s) := by cases r <;> rfl
theorem exec_ldImmRow (o : Opd8) (n : Byte) : exec (ldImmRow o n) s = .next (loadImm o n s) := by
  rcases o with r | _
  · cases r <;> rfl
  · rfl
theorem exec_aluRow (op : AluOp) (o : Opd8) : exec (aluRow op o) s = .next (aluOpd op o s) := by
  rcases o with r | _
  · cases op <;> cases r <;> rfl
  · cases op <;> rfl
theorem exec_aluImmRow (op : AluOp) (n : Byte) : exec (aluImmRow op n) s = .next (aluByte op n s) := by cases op <;> rfl
theorem exec_incRow (o : Opd8) : exec (incRow o) s = .next (incOpd o s) := by
  rcases o with r | _
  · cases r <;> rfl
  · rfl
theorem exec_decRow (o : Opd8) : exec (decRow o) s = .next (decOpd o s) := by
  rcases o with r | _
  · cases r <;> rfl
  · rfl
theorem exec_ldPairRow (q : Pair) (nn : Word) : exec (ldPairRow q nn) s = .next (setPair q nn s) := by cases q <;> rfl
theorem exec_addHLRow (q : Pair) : exec (addHLRow q) s = .next (addHL q s) := by cases q <;> rfl
theorem exec_incPairRow (q : Pair) : exec (incPairRow q) s = .next (incPair q s) := by cases q <;> rfl
theorem exec_decPairRow (q : Pair) : exec (decPairRow q) s = .next (decPair q s) := by cases q <;> rfl
theorem exec_pushRow (q : StackPair) : exec (pushRow q) s = .next (pushPair q s) := by cases q <;> rfl
theorem exec_popRow (q : StackPair) : exec (popRow q) s = .next (popPair q s) := by cases q <;> rfl
theorem exec_jrRow (cc : Cond) (e : Byte) : exec (jrRow cc e) s = .next (whenCond cc (jumpRel e) s) := by cases cc <;> rfl
theorem exec_jpRow (cc : Cond) (nn : Word) : exec (jpRow cc nn) s = .next (whenCond cc (jump nn) s) := by cases cc <;> rfl
theorem exec_callRow (cc : Cond) (nn : Word) : exec (callRow cc nn) s = .next (whenCond cc (callTo nn) s) := by
  cases cc <;> rfl
theorem exec_retRow (cc : Cond) : exec (retRow cc) s = .next (returnIf cc s) := by cases cc <;> rfl
theorem exec_rstRow (k : Oct) : exec (rstRow k) s = .next (callTo (BitVec.ofNat 16 (8 * k.toNat)) s) := by cases k <;> rfl
theorem exec_rotRow (op : RotOp) (o : Opd8) : exec (rotRow op o) s = .next (rotOpd op o s) := by
  rcases o with r | _
  · cases op <;> cases r <;> rfl
  · cases op <;> rfl
theorem exec_bitRow (k : Oct) (o : Opd8) : exec (bitRow k o) s = .next (bitOpd k.toNat o s) := by
  rcases o with r | _
  · cases k <;> cases r <;> rfl
  · cases k <;> rfl
theorem exec_resRow (k : Oct) (o : Opd8) : exec (resRow k o) s = .next (resOpd k.toNat o s) := by
  rcases o with r | _
  · cases k <;> cases r <;> rfl
  · cases k <;> rfl
theorem exec_setRow (k : Oct) (o : Opd8) : exec (setRow k o) s = .next (setOpd k.toNat o s) := by
  rcases o with r | _
  · cases k <;> cases r <;> rfl
  · cases k <;> rfl
theorem exec_illegal {op : Byte} {i : Instr} (h : (op, i) ∈ Claims.illegals) :
    exec i s = .next (raiseFatal (.unimplementedOpcode op (s.cpu.pc - 1)) s) := by
  simp only [Claims.illegals, List.mem_cons, List.not_mem_nil, Prod.mk.injEq, or_false] at h
  rcases h with ⟨rfl, rfl⟩ | ⟨rfl, rfl⟩ | ⟨rfl, rfl⟩ | ⟨rfl, rfl⟩ | ⟨rfl, rfl⟩ | ⟨rfl, rfl⟩ | ⟨rfl, rfl⟩ | ⟨rfl, rfl⟩ |
    ⟨rfl, rfl⟩ | ⟨rfl, rfl⟩ | ⟨rfl, rfl⟩ <;> rfl

end

end Sys2Proof.Machine

/-! PROOF. What an instruction and a step can do, said once: machine cycles, bus writes at addresses that are named, a few plain
updates, and nothing else. -/

namespace Sys2Proof.Machine

open Sys2Proof.Claims

/-- STOP toggles the speed with no button held and the switch armed (46_system.md R377). -/
theorem stopRow_toggle (button armed pending : Bool) : (stopRow button armed pending).toggle = (!button && armed) := by
  cases button <;> cases armed <;> cases pending <;> rfl

/-- What the launch fixed: the parameters, the cartridge but for its registers, clock and RAM, and the host's buttons. -/
def State.launchFixed (s : State) : Params × Cart × Byte := (s.cfg, s.cart.fixed, s.joypad.joy)

/-- The states the machine can reach from `s` by its elementary moves, with bus writes at the addresses of `A` only. In Mono no
move of the processor changes the speed switch. -/
inductive Moves (A : Word → Prop) (s : State) : State → Prop where
  | refl : Moves A s s
  | cycle {t : State} : Moves A s t → Moves A s (cycle t)
  | write {t : State} (a : Word) (v : Byte) : A a → Moves A s t → Moves A s (busWrite a v t)
  | cpu {t : State} (p : Cpu) : (t.cfg.mode = .mono → p.speed = t.cpu.speed ∧ p.speedArmed = t.cpu.speedArmed) →
      Moves A s t → Moves A s { t with cpu := p }
  | irq {t : State} (q : Irq) : Moves A s t → Moves A s { t with irq := q }
  | joyPrev {t : State} (v : BitVec 4) : Moves A s t → Moves A s { t with joypad.prev := v }
  | divReset {t : State} : Moves A s t → Moves A s (divReset t)

namespace Moves

variable {A : Word → Prop} {s t : State}

/-! ## The operations of a step, after moves -/

/-- An update of the processor that leaves the speed switch. -/
theorem regs (h : Moves A s t) (p : Cpu) (hs : p.speed = t.cpu.speed := by simp)
    (ha : p.speedArmed = t.cpu.speedArmed := by simp) : Moves A s { t with cpu := p } := h.cpu p fun _ => ⟨hs, ha⟩

theorem status (h : Moves A s t) (x : Status) : Moves A s { t with cpu.status := x } := h.regs { t.cpu with status := x }

theorem setReg (h : Moves A s t) (r : Reg8) (v : Byte) : Moves A s (setReg r v t) := h.regs (t.cpu.set r v)

theorem setPair (h : Moves A s t) (q : Pair) (v : Word) : Moves A s (setPair q v t) := h.regs (t.cpu.setPair q v)

theorem setFlags (h : Moves A s t) (f : Flags) : Moves A s (setFlags f t) := h.regs { t.cpu with flags := f }

theorem setPc (h : Moves A s t) (v : Word) : Moves A s (setPc v t) := h.regs { t.cpu with pc := v }

theorem setAccFlags (h : Moves A s t) (r : Byte × Flags) : Moves A s (setAccFlags r t) :=
  h.regs { t.cpu with a := r.1, flags := r.2 }

theorem advancePc (h : Moves A s t) : Moves A s (advancePc t) := h.regs { t.cpu with pc := t.cpu.pc + 1 }

theorem memWrite (h : Moves A s t) {a : Word} (ha : A a) (v : Byte) : Moves A s (memWrite a v t) := h.cycle.write a v ha

theorem pushByte (h : Moves A s t) (ha : A (t.cpu.sp - 1)) (v : Byte) : Moves A s (pushByte v t) :=
  (h.regs { t.cpu with sp := t.cpu.sp - 1 }).memWrite ha v

theorem push16 (h : Moves A s t) (h1 : A (t.cpu.sp - 1)) (h2 : A (t.cpu.sp - 2)) (v : Word) : Moves A s (push16 v t) := by
  refine (h.pushByte h1 (hi v)).pushByte ?_ (lo v)
  rwa [pushByte_sp, BitVec.sub_sub]

theorem popByte (h : Moves A s t) : Moves A s (popByte t).2 :=
  h.cycle.regs { (Machine.cycle t).cpu with sp := (Machine.cycle t).cpu.sp + 1 }

theorem pop16 (h : Moves A s t) : Moves A s (pop16 t).2 := h.popByte.popByte

theorem popPc (h : Moves A s t) : Moves A s (popPc t) := h.pop16.cycle.setPc _

theorem readOpd (h : Moves A s t) (o : Opd8) : Moves A s (readOpd o t).2 := by
  cases o with
  | reg r => exact h
  | atHL => exact h.cycle

theorem writeOpd (h : Moves A s t) {o : Opd8} (ho : o = .atHL → A t.cpu.hl) (v : Byte) : Moves A s (writeOpd o v t) := by
  cases o with
  | reg r => exact h.setReg r v
  | atHL => exact h.memWrite (ho rfl) v

theorem fetch8 (h : Moves A s t) : Moves A s (fetch8 t).2 := h.cycle.advancePc

theorem fetchBytes (h : Moves A s t) (n : Nat) : Moves A s (fetchBytes n t).2 := by
  induction n generalizing t with
  | zero => exact h
  | succ n ih => exact ih h.fetch8

theorem joypadEvaluate (h : Moves A s t) : Moves A s (joypadEvaluate t) :=
  (h.joyPrev t.joypad.lines).irq _

theorem whenCond (h : Moves A s t) {cc : Cond} {f : State → State} (hf : condHolds cc t.cpu.flags = true → Moves A s (f t)) :
    Moves A s (whenCond cc f t) := by
  cases hc : condHolds cc t.cpu.flags with
  | false => rwa [whenCond_of_not f hc]
  | true => rw [whenCond_of f hc]; exact hf hc

theorem ite {c : Prop} [Decidable c] {u : State} (ht : Moves A s t) (hu : Moves A s u) : Moves A s (if c then t else u) := by
  split
  · exact ht
  · exact hu

/-- Moves follow moves; the later ones may write to fewer addresses. -/
theorem trans {B : Word → Prop} {u : State} (h : Moves B s t) (k : Moves A t u) (hAB : ∀ a, A a → B a) : Moves B s u := by
  induction k with
  | refl => exact h
  | cycle _ ih => exact ih.cycle
  | write a v ha _ ih => exact ih.write a v (hAB a ha)
  | cpu p hp _ ih => exact ih.cpu p hp
  | irq q _ ih => exact ih.irq q
  | joyPrev v _ ih => exact ih.joyPrev v
  | divReset _ ih => exact ih.divReset

/-- No move changes what the launch fixed: the parameters, the cartridge but for its registers, clock and RAM, the buttons. -/
theorem launchFixed (h : Moves A s t) : t.launchFixed = s.launchFixed := by
  induction h with
  | refl => rfl
  | cycle _ ih => exact (still_congr State.launchFixed (cycle_still _) fun _ => rfl).trans ih
  | write a v _ _ ih => exact (settled_congr State.launchFixed (busWrite_settled a v _) fun _ => rfl).trans ih
  | cpu _ _ _ ih | irq _ _ ih | joyPrev _ _ ih | divReset _ ih => exact ih

theorem cfg (h : Moves A s t) : t.cfg = s.cfg := congrArg Prod.fst h.launchFixed

/-! ## The operations of the instructions -/

theorem loadOpd {d : Opd8} (o : Opd8) (hd : d = .atHL → A s.cpu.hl) : Moves A s (loadOpd d o s) :=
  (refl.readOpd o).writeOpd (by simpa using hd) _

theorem loadA (a : Word) : Moves A s (loadA a s) := refl.cycle.setReg .a _

theorem storeA {a : Word} (ha : A a) : Moves A s (storeA a s) := refl.memWrite ha _

theorem loadAStep (f : Word → Word) : Moves A s (loadAStep f s) := (loadA s.cpu.hl).setPair .hl _

theorem storeAStep (f : Word → Word) (ha : A s.cpu.hl) : Moves A s (storeAStep f s) := (storeA ha).setPair .hl _

theorem storeSP {nn : Word} (h1 : A nn) (h2 : A (nn + 1)) : Moves A s (storeSP nn s) := (refl.memWrite h1 _).memWrite h2 _

theorem loadHLSP (e : Byte) : Moves A s (loadHLSP e s) := (refl.cycle.setPair .hl _).setFlags _

theorem pushPair (h1 : A (s.cpu.sp - 1)) (h2 : A (s.cpu.sp - 2)) (q : StackPair) : Moves A s (pushPair q s) :=
  refl.cycle.push16 (by simpa using h1) (by simpa using h2) _

theorem popPair (q : StackPair) : Moves A s (popPair q s) := 
  refl.pop16.regs ((Machine.pop16 s).2.cpu.setStack q (Machine.pop16 s).1)

theorem aluOpd (op : AluOp) (o : Opd8) : Moves A s (aluOpd op o s) := (refl.readOpd o).setAccFlags _

theorem incOpd {o : Opd8} (ho : o = .atHL → A s.cpu.hl) : Moves A s (incOpd o s) :=
  ((refl.readOpd o).writeOpd (by simpa using ho) _).setFlags _

theorem decOpd {o : Opd8} (ho : o = .atHL → A s.cpu.hl) : Moves A s (decOpd o s) :=
  ((refl.readOpd o).writeOpd (by simpa using ho) _).setFlags _

theorem addHL (q : Pair) : Moves A s (addHL q s) := (refl.cycle.setPair .hl _).setFlags _

theorem incPair (q : Pair) : Moves A s (incPair q s) := (refl.setPair q _).cycle

theorem decPair (q : Pair) : Moves A s (decPair q s) := (refl.setPair q _).cycle

theorem addSP (e : Byte) : Moves A s (addSP e s) := (refl.cycle.cycle.setPair .sp _).setFlags _

theorem rotA (op : RotOp) : Moves A s (rotA op s) := refl.setAccFlags _

theorem rotOpd (op : RotOp) {o : Opd8} (ho : o = .atHL → A s.cpu.hl) : Moves A s (rotOpd op o s) :=
  ((refl.readOpd o).writeOpd (by simpa using ho) _).setFlags _

theorem bitOpd (k : Nat) (o : Opd8) : Moves A s (bitOpd k o s) := (refl.readOpd o).setFlags _

theorem resOpd (k : Nat) {o : Opd8} (ho : o = .atHL → A s.cpu.hl) : Moves A s (resOpd k o s) :=
  (refl.readOpd o).writeOpd (by simpa using ho) _

theorem setOpd (k : Nat) {o : Opd8} (ho : o = .atHL → A s.cpu.hl) : Moves A s (setOpd k o s) :=
  (refl.readOpd o).writeOpd (by simpa using ho) _

theorem jump (nn : Word) : Moves A s (jump nn s) := refl.cycle.setPc nn

theorem jumpRel (e : Byte) : Moves A s (jumpRel e s) := refl.cycle.setPc _

theorem callTo (h1 : A (s.cpu.sp - 1)) (h2 : A (s.cpu.sp - 2)) (nn : Word) : Moves A s (callTo nn s) :=
  (refl.cycle.push16 (by simpa using h1) (by simpa using h2) _).setPc nn

theorem returnIf (cc : Cond) : Moves A s (returnIf cc s) := refl.cycle.whenCond fun _ => refl.cycle.popPc

theorem returnFromInterrupt : Moves A s (returnFromInterrupt s) := refl.popPc.regs { (Machine.popPc s).cpu with ime := true }

/-- The speed toggles only in a row that Color selects (46_system.md R372). -/
theorem stopRow_apply {r : StopRow} (hr : r.toggle = true → s.cfg.mode = .color) : Moves A s (r.apply s) := by
  unfold StopRow.apply
  extract_lets t1 t2 cpu t3
  have h1 : Moves A s t1 := ite refl.advancePc refl
  have h2 : Moves A s t2 := ite h1.divReset h1
  have h3 : Moves A s t3 := by
    refine iteInduction (fun ht => ?_) fun _ => h2
    exact h2.cpu _ fun hm => absurd (hr ht) (by simp [← h2.cfg, hm])
  exact h3.status r.after

theorem stopNow : Moves A s (stopNow s) := by
  refine stopRow_apply fun h => ?_
  simp only [State.stopRow, stopRow_toggle, Bool.and_eq_true, decide_eq_true_eq] at h
  obtain ⟨-, -, hcolor⟩ := h
  exact hcolor

/-- The extended row that the byte after 0xCB selects (46_system.md R375): it writes the byte at HL unless it is a bit test. -/
theorem extended (op2 : Byte) (ho : op2.toNat % 8 = 6 → op2.toNat / 64 ≠ 1 → A s.cpu.hl) : Moves A s (extended op2 s) := by
  have hl (h : op2.toNat / 64 ≠ 1) : Opd8.ofCode (op2.toNat % 8) = .atHL → A s.cpu.hl := fun e =>
    ho (Opd8.ofCode_eq_atHL e) h
  unfold Machine.extended
  dsimp only
  split
  · next h => exact rotOpd _ (hl (by simp [h]))
  · exact bitOpd _ _
  · next h => exact resOpd _ (hl (by simp [h]))
  · next _ h _ => exact setOpd _ (hl h)

end Moves

/-! ## Every instruction -/

/-- The instruction completes, and it stores only to the addresses that the statement names. -/
def Completes (i : Instr) : Prop := ∀ s, ∃ t, exec i s = .next t ∧ Moves (StoresTo i s) s t

section
variable {i : Instr} {s : State}

theorem storesTo_hl (h : storesAtHL i) : StoresTo i s s.cpu.hl := .inl ⟨h, rfl⟩

/-- For the rows with an 8-bit operand. -/
theorem storesTo_opd {row : Opd8 → Instr} (h : storesAtHL (row .atHL)) {o : Opd8} (ho : o = .atHL) :
    StoresTo (row o) s s.cpu.hl := by
  subst ho
  exact storesTo_hl h

theorem storesAtHL_rot (op : RotOp) : storesAtHL (rotRow op .atHL) := by
  have h : ∃ op', rotRow op .atHL = rotRow op' .atHL := ⟨op, rfl⟩
  simp only [storesAtHL, h, true_or, or_true]

theorem storesAtHL_res (k : Oct) : storesAtHL (resRow k .atHL) := by
  have h : ∃ k', resRow k .atHL = resRow k' .atHL := ⟨k, rfl⟩
  simp only [storesAtHL, h, true_or, or_true]

theorem storesAtHL_set (k : Oct) : storesAtHL (setRow k .atHL) := by
  have h : ∃ k', setRow k .atHL = setRow k' .atHL := ⟨k, rfl⟩
  simp only [storesAtHL, h, true_or, or_true]

theorem storesTo_push (h : pushes i s) : StoresTo i s (s.cpu.sp - 1) ∧ StoresTo i s (s.cpu.sp - 2) := by
  simp [StoresTo, h]

end

theorem completes_rows : OfRows Completes where
  nop _ := ⟨_, rfl, .refl⟩
  stop _ := ⟨_, rfl, .stopNow⟩
  halt _ := ⟨_, rfl, Moves.refl.status .halted⟩
  di s := ⟨_, rfl, Moves.refl.regs { s.cpu with ime := false, eiDelay := false }⟩
  ei s := ⟨_, rfl, Moves.refl.regs { s.cpu with eiDelay := true }⟩
  illegal _ _ h s := ⟨_, exec_illegal s h, Moves.refl.regs { s.cpu with fault := _ }⟩
  prefixCB op2 _ := ⟨_, rfl, .extended op2 fun h6 h1 => storesTo_hl (by simp [storesAtHL, h6, h1])⟩
  ldReg r o s := ⟨_, exec_ldReg s r o, .loadOpd o nofun⟩
  ldMem r s := ⟨_, exec_ldMem s r, .loadOpd _ fun _ => storesTo_hl (.inl ⟨r, rfl⟩)⟩
  ldImm o n s := ⟨_, exec_ldImmRow s o n, Moves.refl.writeOpd (storesTo_opd (row := (ldImmRow · n)) (.inr (.inl ⟨n, rfl⟩))) n⟩
  ldAMBC _ := ⟨_, rfl, .loadA _⟩
  ldAMDE _ := ⟨_, rfl, .loadA _⟩
  ldAMnn _ _ := ⟨_, rfl, .loadA _⟩
  ldhAMC _ := ⟨_, rfl, .loadA _⟩
  ldhAMn _ _ := ⟨_, rfl, .loadA _⟩
  ldMBCA _ := ⟨_, rfl, .storeA (by simp [StoresTo])⟩
  ldMDEA _ := ⟨_, rfl, .storeA (by simp [StoresTo])⟩
  ldMnnA _ _ := ⟨_, rfl, .storeA (by simp [StoresTo])⟩
  ldhMCA _ := ⟨_, rfl, .storeA (by simp [StoresTo])⟩
  ldhMnA _ _ := ⟨_, rfl, .storeA (by simp [StoresTo])⟩
  ldAMHLInc _ := ⟨_, rfl, .loadAStep incHalves⟩
  ldAMHLDec _ := ⟨_, rfl, .loadAStep decHalves⟩
  ldMHLIncA _ := ⟨_, rfl, .storeAStep incHalves (storesTo_hl (by simp [storesAtHL]))⟩
  ldMHLDecA _ := ⟨_, rfl, .storeAStep decHalves (storesTo_hl (by simp [storesAtHL]))⟩
  ldPair q nn s := ⟨_, exec_ldPairRow s q nn, Moves.refl.setPair q nn⟩
  ldMnnSP _ _ := ⟨_, rfl, .storeSP (by simp [StoresTo]) (by simp [StoresTo])⟩
  ldSPHL s := ⟨_, rfl, (Moves.refl.regs { s.cpu with sp := s.cpu.hl }).cycle⟩
  ldHLSPe e _ := ⟨_, rfl, .loadHLSP e⟩
  push q s :=
    have h := storesTo_push (.inl ⟨q, rfl⟩)
    ⟨_, exec_pushRow s q, .pushPair h.1 h.2 q⟩
  pop q s := ⟨_, exec_popRow s q, .popPair q⟩
  alu op o s := ⟨_, exec_aluRow s op o, .aluOpd op o⟩
  aluImm op n s := ⟨_, exec_aluImmRow s op n, Moves.refl.setAccFlags _⟩
  inc o s := ⟨_, exec_incRow s o, .incOpd (storesTo_opd (by simp [storesAtHL, incRow]))⟩
  dec o s := ⟨_, exec_decRow s o, .decOpd (storesTo_opd (by simp [storesAtHL, decRow]))⟩
  daa _ := ⟨_, rfl, Moves.refl.setAccFlags _⟩
  cpl _ := ⟨_, rfl, Moves.refl.setAccFlags _⟩
  scf _ := ⟨_, rfl, Moves.refl.setFlags _⟩
  ccf _ := ⟨_, rfl, Moves.refl.setFlags _⟩
  addHL q s := ⟨_, exec_addHLRow s q, .addHL q⟩
  incPair q s := ⟨_, exec_incPairRow s q, .incPair q⟩
  decPair q s := ⟨_, exec_decPairRow s q, .decPair q⟩
  addSPe e _ := ⟨_, rfl, .addSP e⟩
  rlca _ := ⟨_, rfl, .rotA .rlc⟩
  rrca _ := ⟨_, rfl, .rotA .rrc⟩
  rla _ := ⟨_, rfl, .rotA .rl⟩
  rra _ := ⟨_, rfl, .rotA .rr⟩
  rot op o s := ⟨_, exec_rotRow s op o, .rotOpd op (storesTo_opd (storesAtHL_rot op))⟩
  bit k o s := ⟨_, exec_bitRow s k o, .bitOpd _ o⟩
  res k o s := ⟨_, exec_resRow s k o, .resOpd _ (storesTo_opd (storesAtHL_res k))⟩
  set k o s := ⟨_, exec_setRow s k o, .setOpd _ (storesTo_opd (storesAtHL_set k))⟩
  jpnn nn _ := ⟨_, rfl, .jump nn⟩
  jp cc nn s := ⟨_, exec_jpRow s cc nn, Moves.refl.whenCond fun _ => .jump nn⟩
  jpHL _ := ⟨_, rfl, Moves.refl.setPc _⟩
  jre e _ := ⟨_, rfl, .jumpRel e⟩
  jr cc e s := ⟨_, exec_jrRow s cc e, Moves.refl.whenCond fun _ => .jumpRel e⟩
  callnn nn _ :=
    have h := storesTo_push (.inr (.inr (.inl ⟨nn, rfl⟩)))
    ⟨_, rfl, .callTo h.1 h.2 nn⟩
  call cc nn s := ⟨_, exec_callRow s cc nn, Moves.refl.whenCond fun hc =>
    have h := storesTo_push (.inr (.inr (.inr ⟨cc, nn, rfl, hc⟩)))
    .callTo h.1 h.2 nn⟩
  rst k s :=
    have h := storesTo_push (.inr (.inl ⟨k, rfl⟩))
    ⟨_, exec_rstRow s k, .callTo h.1 h.2 _⟩
  ret _ := ⟨_, rfl, Moves.refl.popPc⟩
  retIf cc s := ⟨_, exec_retRow s cc, .returnIf cc⟩
  reti _ := ⟨_, rfl, .returnFromInterrupt⟩

/-- EVERY INSTRUCTION COMPLETES, by elementary moves that store where the statement names. -/
theorem exec_completes (i : Instr) : Completes i := completes_rows.all i

/-! ## Every step -/

/-- Any address. -/
abbrev anywhere : Word → Prop := fun _ => True

namespace Moves

variable {s t : State}

theorem dispatch (h : Moves anywhere s t) (l : Line) : Moves anywhere s (dispatch l t) := by
  unfold Machine.dispatch
  extract_lets cpu u ret v aborted w cpu' x
  have hu : Moves anywhere s u := (h.regs { t.cpu with ime := false }).cycle.cycle
  have hw : Moves anywhere s w := (hu.pushByte trivial (hi ret)).pushByte trivial (lo ret)
  clear_value w
  have hx : Moves anywhere s x := ite (hw.setPc 0x0000) ((hw.setPc l.vector).irq (w.irq.clear l))
  exact ite hx.cycle hx

theorem interruptCheck (h : Moves anywhere s t) : Moves anywhere s (interruptCheck t) := by
  unfold Machine.interruptCheck
  split
  · exact h.regs { t.cpu with ime := true, eiDelay := false }
  split
  · split
    · exact h.dispatch _
    · exact h
  · exact h

end Moves

/-- The parts of a step before the interrupt check make elementary moves. -/
theorem wake_moves (A : Word → Prop) (s : State) : ∃ t, (wake s = .waits t ∨ wake s = .goes t) ∧ Moves A s t := by
  have hj : Moves A s (joypadEvaluate s) := Moves.refl.joypadEvaluate
  unfold wake
  split
  · exact ⟨s, .inl rfl, .refl⟩
  · exact ⟨_, .inr rfl, hj⟩
  · dsimp only
    split
    · exact ⟨_, .inr rfl, hj.status .active⟩
    · exact ⟨_, .inl rfl, hj⟩
  · unfold haltedWait
    dsimp only
    split
    · exact ⟨_, .inr rfl, hj.cycle.status .active⟩
    · exact ⟨_, .inl rfl, hj.cycle⟩

/-- The fetch always finds an instruction (30_encoding.md R184). -/
theorem fetchInstr_ok (s : State) :
    ∃ i, fetchInstr s = (.ok i, (fetchBytes (primaryRow (fetch8 s).1).more (fetch8 s).2).2) := by
  obtain ⟨i, hi⟩ := decode_of_more (fetchBytes_length (primaryRow (fetch8 s).1).more (fetch8 s).2)
  exact ⟨i, by simp only [fetchInstr, hi]; rfl⟩

theorem run_moves (s : State) : ∃ t, run s = .next t ∧ Moves anywhere s t := by
  obtain ⟨i, hi⟩ := fetchInstr_ok (interruptCheck s)
  have h := (Moves.refl (s := s)).interruptCheck.fetch8.fetchBytes (primaryRow (fetch8 (interruptCheck s)).1).more
  obtain ⟨t, ht, hm⟩ := exec_completes i (fetchBytes (primaryRow (fetch8 (interruptCheck s)).1).more
    (fetch8 (interruptCheck s)).2).2
  exact ⟨t, by simp only [run, hi, ht], h.trans hm fun _ _ => trivial⟩

/-- EVERY STEP FROM A STATE WITHOUT A FAULT HAS A NEXT STATE, by elementary moves. -/
theorem step_moves {s : State} (h : s.cpu.fault = none) : ∃ t, step s = .next t ∧ Moves anywhere s t := by
  obtain ⟨t, hw, hm⟩ := wake_moves anywhere s
  rcases hw with hw | hw
  · exact ⟨t, by simp only [step, h, hw], hm⟩
  · obtain ⟨u, hu, hr⟩ := run_moves t
    exact ⟨u, by simp only [step, h, hw, hu], hm.trans hr fun _ => id⟩

/-- From a faulted state the step is the fault (60_exceptions.md R431). -/
theorem step_fault {s : State} {f : Fatal} (h : s.cpu.fault = some f) : step s = .fault (.fatal f) := by
  simp only [step, h]

/-- A step that answers a state makes elementary moves. -/
theorem moves_of_step {s t : State} (h : step s = .next t) : Moves anywhere s t := by
  cases hf : s.cpu.fault with
  | some f => rw [step_fault hf] at h; cases h
  | none =>
    obtain ⟨u, hu, hm⟩ := step_moves hf
    rw [hu] at h
    cases h
    exact hm

/-- A run from a faulted state never reaches its end (00_scope.md R22). -/
theorem not_endsAt_of_fault {s : State} {f : Fatal} (h : s.cpu.fault = some f) (finish : Word) (n : Nat) :
    ¬ EndsAt finish n s := by
  intro he
  obtain ⟨t, ht, hf⟩ := he.no_fault
  cases n with
  | zero => cases ht; simp [h] at hf
  | succ n => rw [stepsFrom_fault (step_fault h)] at ht; cases ht

/-- Settles O7: a step without a fault is made of moves that always complete; a faulted run stops before its first step. -/
theorem stepStopsOnlyAtAFault : Obligations.StepStopsOnlyAtAFault := fun _ =>
  ⟨fun h => (step_moves h).imp fun _ ht => ht.1, fun _ h => ⟨step_fault h, not_endsAt_of_fault h⟩⟩

/-- Settles O36: no elementary move changes what the launch fixed. -/
theorem stepKeepsWhatTheLaunchFixed : Obligations.StepKeepsWhatTheLaunchFixed := by
  intro s t h
  have hl := (moves_of_step h).launchFixed
  simp only [State.launchFixed, Cart.fixed, Cart.reset, Prod.mk.injEq, Cart.mk.injEq] at hl
  obtain ⟨hcfg, ⟨-, hkind, hrom, hram, hclock, hbattery, -, himage, -⟩, hjoy⟩ := hl
  exact ⟨hcfg, himage, hkind, hrom, hram, hclock, hbattery, hjoy⟩

end Sys2Proof.Machine

/-! PROOF. The memory frame: elementary moves that write to plain memory only leave every other cell as it reads. -/

namespace Sys2Proof.Machine

open Sys2Proof.Claims

/-! ## A machine cycle and the cells -/

/-- A machine cycle moves no cell: no bank register is among what it changes. -/
@[simp] theorem place_cycle (s : State) (a : Word) : (cycle s).place a = s.place a :=
  still_congr (·.place a) (cycle_still s) fun _ => rfl

/-- A machine cycle changes no memory but video RAM, and that only while a transfer is armed. -/
theorem memoryOf_cycle {s : State} {st : Store} (h : st ≠ .vram ∨ s.hdma.active = false) :
    (cycle s).memoryOf st = s.memoryOf st := by
  by_cases hv : st = .vram
  · subst hv
    exact cycle_vram (h.resolve_left (· rfl))
  · refine still_congr (·.memoryOf st) (cycle_still s) fun _ => ?_
    cases st with
    | vram => exact absurd rfl hv
    | _ => rfl

/-- Two states in which an address has one cell, in memories that agree, read it alike. -/
theorem busRead_congr {s t : State} {a : Word} {c : Store × Nat} (hs : s.place a = some c) (ht : t.place a = s.place a)
    (hm : t.memoryOf c.1 = s.memoryOf c.1) : busRead t a = busRead s a := by
  rw [busRead_of_place hs, busRead_of_place (ht.trans hs), hm]

/-- A byte put into one cell leaves what every other cell reads. -/
theorem busRead_putCell_of_ne {s : State} (v : Byte) {b : Word} {c d : Store × Nat} (hb : s.place b = some d) (hne : c ≠ d) :
    busRead (s.putCell v c) b = busRead s b := by
  rw [busRead_of_place hb, busRead_of_place ((place_putCell s v c b).trans hb), memoryOf_putCell]
  split
  · next h =>
    have hk : d.2 ≠ c.2 := fun e => hne (Prod.ext h.symm e.symm)
    simp only [cell, Memory.get?_set_of_ne _ v hk]
  · rfl

/-! ## The frame of elementary moves -/

/-- From `s` to `t` no cell moves, no transfer is armed, and every cell but those behind `A` reads as before. -/
structure KeepsReads (A : Word → Prop) (s t : State) : Prop where
  idle : t.hdma.active = false
  place : ∀ b, t.place b = s.place b
  read : ∀ b c, s.place b = some c → (∀ a, A a → s.place a ≠ some c) → busRead t b = busRead s b

/-- A move that changes neither the transfer nor a cell nor a memory. -/
theorem KeepsReads.still {A : Word → Prop} {s t u : State} (h : KeepsReads A s t) (hd : u.hdma.active = t.hdma.active)
    (hp : ∀ b, u.place b = t.place b) (hm : ∀ st, u.memoryOf st = t.memoryOf st) : KeepsReads A s u where
  idle := hd.trans h.idle
  place b := (hp b).trans (h.place b)
  read b c hb hA := (busRead_congr ((h.place b).trans hb) (hp b) (hm c.1)).trans (h.read b c hb hA)

/-- A write to a plain address of `A`. -/
theorem KeepsReads.write {A : Word → Prop} {s t : State} (h : KeepsReads A s t) {a : Word} (v : Byte) (ha : A a)
    (hp : s.Plain a) : KeepsReads A s (busWrite a v t) := by
  obtain ⟨c, hc, hrom⟩ := hp
  have hw : busWrite a v t = t.putCell v c := busWrite_of_place v ((h.place a).trans hc) hrom
  refine ⟨?_, fun b => ?_, fun b d hb hA => ?_⟩
  · rw [hw, putCell_hdma, h.idle]
  · rw [hw, place_putCell, h.place]
  · have hne : c ≠ d := fun e => hA a ha (e ▸ hc)
    rw [hw, busRead_putCell_of_ne v ((h.place b).trans hb) hne, h.read b d hb hA]

/-- Elementary moves whose writes go to plain memory keep every other cell. -/
theorem Moves.keepsReads {A : Word → Prop} {s t : State} (h : Moves A s t) (hs : s.hdma.active = false)
    (hA : ∀ a, A a → s.Plain a) : KeepsReads A s t := by
  induction h with
  | refl => exact ⟨hs, fun _ => rfl, fun _ _ _ _ => rfl⟩
  | cycle _ ih =>
    exact ih.still (by rw [cycle_hdma ih.idle]) (place_cycle _) fun _ => memoryOf_cycle (.inr ih.idle)
  | write a v ha _ ih => exact ih.write v ha (hA a ha)
  | cpu _ _ _ ih | irq _ _ ih | joyPrev _ _ ih | divReset _ ih =>
    exact ih.still rfl (fun _ => rfl) fun st => by cases st <;> rfl

/-- Settles O37: an instruction completes by moves that write only where `StoresTo` names. -/
theorem instructionsStoreOnlyWhereTheySay : Obligations.InstructionsStoreOnlyWhereTheySay := fun i s hs hplain => by
  obtain ⟨t, ht, hm⟩ := exec_completes i s
  exact ⟨t, ht, (hm.keepsReads hs hplain).read⟩

end Sys2Proof.Machine

/-! PROOF. The reset state and the launch: the invariant at the start, what the launch rejects, and what reset leaves. -/

namespace Sys2Proof.Machine

open Sys2Proof.Claims

/-! ## The processor at power-on -/

@[simp] theorem reset_fault (mode : ConsoleMode) : (Cpu.reset mode).fault = none := by cases mode <;> rfl
@[simp] theorem reset_pc (mode : ConsoleMode) : (Cpu.reset mode).pc = 0x0100 := by cases mode <;> rfl

/-! ## The invariant at the start -/

/-- The recommended profile fits every parameter set (10_state.md R76; 70_reset_and_hazards.md R604). -/
theorem recommended_fits (cfg : Params) : (Profile.recommended cfg.mode).Fits cfg where
  ram := reset_canonical.ram
  frame := ⟨show 0 < dotsPerLine by decide, show 0 < linesPerFrame by decide, rfl⟩
  mono hm := by rw [hm]; exact ⟨rfl, rfl, rfl, rfl, rfl⟩
  sound := {
    length1 := Nat.zero_le _
    length2 := Nat.zero_le _
    length3 := Nat.zero_le _
    length4 := Nat.zero_le _
    freq1 := Nat.zero_le _
    freq2 := Nat.zero_le _
    freq3 := Nat.zero_le _
    freq4 := Nat.zero_le _
    counter := id
    block := id
    silent := nofun }

/-- A profile that fits, around a canonical cartridge with its clock below one second, starts in the invariant. -/
theorem resetOf_inv {p : Profile} {cfg : Params} {c : Cart} (hp : p.Fits cfg) (hrom : c.rom.wf) (hxram : c.xram.wf)
    (hclock : c.ClockInSecond) : (State.resetOf p cfg c).Inv where
  memory := ⟨hp.ram, hrom, hxram⟩
  frame := hp.frame
  mono hm :=
    have ⟨hvbk, hsvbk, hspeed, harmed, hhdma⟩ := hp.mono hm
    ⟨hvbk, hsvbk, hspeed, harmed, hhdma⟩
  sound := hp.sound
  clock := hclock

/-! ## The launch by its cases (70_reset_and_hazards.md R603) -/

/-- The parameters of a launch. -/
def LaunchArgs.params (args : LaunchArgs) (mode : ConsoleMode) : Params where
  mode := mode
  fill := args.fill
  irqTail := args.irqTail
  sampleInterval := args.sampleInterval
  sampleBlock := args.sampleBlock

/-- The state that a launch with these features answers. -/
def launchState (image : List Byte) (f : Features) (args : LaunchArgs) : State :=
  let mode := args.mode (readHeader image)
  State.resetOf (args.profile mode) (args.params mode) (cartOf image f args)

@[simp] theorem launchState_cpu (image : List Byte) (f : Features) (args : LaunchArgs) : (launchState image f args).cpu =
    (args.reset.getD (Profile.recommended (args.mode (readHeader image)))).cpu := rfl

@[simp] theorem launchState_rom (image : List Byte) (f : Features) (args : LaunchArgs) :
    (launchState image f args).cart.rom = Memory.ofBytes 0 image := rfl

section
variable {image : List Byte} {args : LaunchArgs}

theorem launch_of_not_fits (h : imageFits image = false) : launch image args = .error (.malformedRom image.length) := by
  simp [launch, h]

theorem launch_of_unknown (h : imageFits image = true) (hf : featuresOf (image.getD 0x147 0) = none) :
    launch image args = .error (.unsupportedCartridge (image.getD 0x147 0)) := by
  have hf' : featuresOf (readHeader image).typeCode = none := hf
  simp only [launch, h, hf', if_true]
  rfl

theorem launch_of_features {f : Features} (h : imageFits image = true) (hf : featuresOf (image.getD 0x147 0) = some f) :
    launch image args = .ok (launchState image f args) := by
  have hf' : featuresOf (readHeader image).typeCode = some f := hf
  simp only [launch, h, hf', if_true]
  rfl

/-- A launch that answers a state has features, and answers the state of these features. -/
theorem launch_ok {s : State} (h : launch image args = .ok s) : ∃ f, s = launchState image f args := by
  cases hfit : imageFits image with
  | false => rw [launch_of_not_fits hfit] at h; cases h
  | true =>
    cases hf : featuresOf (image.getD 0x147 0) with
    | none => rw [launch_of_unknown hfit hf] at h; cases h
    | some f => rw [launch_of_features hfit hf] at h; cases h; exact ⟨f, rfl⟩

end

/-- External RAM with the save overlaid is canonical where the host's is (62_boundary_units.md R574). -/
theorem cartOf_xram_wf {args : LaunchArgs} (h : args.xram.wf) (image : List Byte) (f : Features) :
    (cartOf image f args).xram.wf := by
  show (if f.battery then args.xram.overlay 0 (args.save.getD []) else args.xram).wf
  split
  · exact Memory.overlay_wf h 0 _
  · exact h

/-- The profile of a launch fits if the host's does, where there is one. -/
theorem profile_fits {args : LaunchArgs} {cfg : Params} (h : ∀ p, args.reset = some p → p.Fits cfg) :
    (args.profile cfg.mode).Fits cfg := by
  unfold LaunchArgs.profile
  cases hr : args.reset with
  | none => exact recommended_fits cfg
  | some p => exact h p hr

/-- Settles O35: a state built around a profile that fits has the invariant. -/
theorem resetHasTheInvariant : Obligations.ResetHasTheInvariant := by
  refine ⟨?_, recommended_fits, fun image args s hxram hclock hfits h => ?_⟩
  · exact resetOf_inv (recommended_fits Params.ofReset) .nil .nil (by unfold Cart.ClockInSecond; decide)
  · obtain ⟨f, rfl⟩ := launch_ok h
    exact resetOf_inv (profile_fits hfits) (Memory.ofBytes_wf 0 image) (cartOf_xram_wf hxram image f) hclock

/-! ## The header's codes (62_boundary_units.md R570, R572) -/

/-- The image in ROM, byte for byte. -/
theorem Memory.get?_ofBytes (a : Nat) (vs : List Byte) (k : Nat) : (Memory.ofBytes a vs).get? (a + k) = vs[k]? := by
  induction vs generalizing a k with
  | nil => rfl
  | cons v vs ih =>
    cases k with
    | zero => simp [Memory.ofBytes, Memory.get?]
    | succ k =>
      have h := ih (a + 1) k
      rw [Nat.add_assoc, Nat.add_comm 1 k] at h
      simpa [Memory.ofBytes, Memory.get?] using h

/-- The type codes of R572. -/
def knownCodes : List Nat :=
  [0x00, 0x01, 0x02, 0x03, 0x08, 0x09, 0x0F, 0x10, 0x11, 0x12, 0x13, 0x19, 0x1A, 0x1B, 0x1C, 0x1D, 0x1E]

theorem featuresOf_isSome : ∀ code : Byte, (featuresOf code).isSome = true ↔ code.toNat ∈ knownCodes := by decide

/-- What the features of a type code are: its controller, its clock, and RAM for the codes that name it. -/
theorem featuresOf_spec : ∀ code : Byte, ∀ f ∈ featuresOf code,
    (f.kind = .romOnly ↔ code.toNat ∈ [0x00, 0x08, 0x09]) ∧ (f.kind = .controller1 ↔ code.toNat ∈ [0x01, 0x02, 0x03]) ∧
    (f.kind = .controller3 ↔ code.toNat ∈ [0x0F, 0x10, 0x11, 0x12, 0x13]) ∧ (f.clock = true ↔ code.toNat ∈ [0x0F, 0x10]) ∧
    (code.toNat ∈ [0x00, 0x08, 0x09, 0x02, 0x03, 0x10, 0x12, 0x13, 0x1A, 0x1B, 0x1D, 0x1E] →
      f.kind = .romOnly ∨ f.ram = true) := by decide

theorem ramBanksOf_eq (code : Byte) :
    ramBanksOf code = if code.toNat ≤ 5 then some ([0, 0, 1, 4, 16, 8].getD code.toNat 0) else none := by
  revert code
  decide

theorem ramBanksFor_eq {f : Features} {code : Byte} (h : f.kind = .romOnly ∨ f.ram = true) (hc : code.toNat ≤ 5) :
    ramBanksFor f code = [0, 0, 1, 4, 16, 8].getD code.toNat 0 := by
  simp only [ramBanksFor, h, if_true, ramBanksOf_eq, hc, Option.getD_some]

/-- The image fits exactly when it is long enough for its header and its banks and its RAM size code has an entry (R573). -/
theorem imageFits_iff (image : List Byte) : imageFits image = true ↔
    ¬ (image.length < 0x150 ∨ image.length < 2 * 2 ^ (image.getD 0x148 0).toNat * 0x4000 ∨
      5 < (image.getD 0x149 0).toNat) := by
  have hram (code : Byte) : (ramBanksOf code).isSome = decide (code.toNat ≤ 5) := by
    rw [ramBanksOf_eq]
    split <;> simp [*]
  simp only [imageFits, hram, Bool.and_eq_true, decide_eq_true_eq, not_or, not_lt, and_assoc]
  rfl

/-- Settles O59: the launch by its three cases, and the fields of the state it answers. -/
theorem launchRejectsBadImages : Obligations.LaunchRejectsBadImages := by
  intro image args
  dsimp only
  have hfits := imageFits_iff image
  refine ⟨fun hshort => ?_, fun hlong hcode => ?_, fun hlong hcode => ?_⟩
  · exact launch_of_not_fits (Bool.eq_false_iff.2 fun h => hfits.1 h hshort)
  · have hnone := mt (featuresOf_isSome _).1 hcode
    exact launch_of_unknown (hfits.2 hlong) (Option.not_isSome_iff_eq_none.1 hnone)
  · obtain ⟨f, hf⟩ := Option.isSome_iff_exists.1 ((featuresOf_isSome _).2 hcode)
    obtain ⟨hrom, h1, h3, hclock, hram⟩ := featuresOf_spec _ f hf
    refine ⟨_, launch_of_features (hfits.2 hlong) hf, rfl, rfl, fun hreset => ?_, fun k _ => ?_, rfl, hrom, h1, h3, hclock,
      fun hcode => ramBanksFor_eq (hram hcode) (show (image.getD 0x149 0).toNat ≤ 5 by omega)⟩
    · rw [launchState_cpu, hreset]
      exact ⟨reset_fault _, reset_pc _⟩
    · rw [launchState_rom]
      simpa only [Nat.zero_add] using Memory.get?_ofBytes 0 image k

/-! ## What reset leaves -/

/-- The read of IF (20_memory.md R110): its three upper bits read 1. -/
theorem busRead_if (s : State) : busRead s 0xFF0F = 0b111#3 ++ s.irq.ifr := by
  have hr : regionOf 0xFF0F = .io := rfl
  simp only [busRead, hr, ioRead]
  simp [mainRegRead]

/-- The registers of R76's Mono column. -/
theorem reset_mono : let p := Cpu.reset .mono
    p.a = 0x01 ∧ p.flags.toByte = 0xB0 ∧ p.bc = 0x0013 ∧ p.de = 0x00D8 ∧ p.hl = 0x014D := by decide

/-- The registers of R76's Color column. -/
theorem reset_color : let p := Cpu.reset .color
    p.a = 0x11 ∧ p.flags.toByte = 0x80 ∧ p.bc = 0x0000 ∧ p.de = 0xFF56 ∧ p.hl = 0x000D := by decide

/-- Settles O60: the reset state takes each piece from the profile, and the recommended profile is R76 row by row. -/
theorem resetLeavesTheProfile : Obligations.ResetLeavesTheProfile := by
  refine ⟨fun p cfg c => ⟨rfl, rfl, rfl, rfl, rfl, rfl, rfl, rfl, rfl, rfl, rfl, rfl⟩, fun mode cfg c _ => ?_⟩
  refine ⟨?processor, ?interrupts, ?banks, ?sound, ?pixel, ?cartridge, ?mono, ?color⟩
  case processor => cases mode <;> exact ⟨rfl, rfl, rfl, rfl, rfl, rfl, rfl, rfl⟩
  case interrupts =>
    have hif : 0b111#3 ++ 0b00001#5 = 0xE1#8 := by decide
    exact ⟨rfl, rfl, (busRead_if _).trans hif, rfl, rfl, rfl, rfl, rfl, rfl, rfl, rfl⟩
  case banks => exact ⟨rfl, rfl, rfl, rfl⟩
  case sound => exact ⟨rfl, rfl, rfl, rfl, rfl, rfl, rfl, rfl, rfl, rfl⟩
  case pixel => exact ⟨rfl, rfl, rfl, rfl, rfl, rfl, rfl, rfl, rfl, rfl, rfl⟩
  case cartridge => exact ⟨rfl, rfl, rfl, rfl, rfl, rfl, rfl, rfl, rfl, rfl⟩
  case mono =>
    rintro rfl
    have ⟨ha, hf, hbc, hde, hhl⟩ := reset_mono
    exact ⟨ha, hf, hbc, hde, hhl, rfl, rfl, rfl, rfl⟩
  case color =>
    rintro rfl
    have ⟨ha, hf, hbc, hde, hhl⟩ := reset_color
    exact ⟨ha, hf, hbc, hde, hhl, rfl, rfl, rfl, rfl, rfl, rfl, rfl, rfl, rfl, rfl⟩

end Sys2Proof.Machine

/-! PROOF. The invariant: what each unit's operations do to its part of it, and that every elementary move keeps all of it. -/

namespace Sys2Proof.Machine

/-! ## The pixel port keeps to the frame (62_boundary_units.md R551, R552) -/

theorem modeAt_vblank {ly : Nat} (h : visibleLines ≤ ly) (dot : Nat) : modeAt ly dot = .vblank := if_pos h

theorem modeAt_visible {ly : Nat} (h : ly < visibleLines) (dot : Nat) :
    modeAt ly dot = if dot < transferDot then .oamScan else if dot < hblankDot then .pixelTransfer else .hblank :=
  if_neg (Nat.not_le.2 h)

/-- On a visible scanline the mode changes at the two dots of R552 only. -/
theorem modeAt_next_dot {ly dot : Nat} (h : ly < visibleLines → dot + 1 ≠ transferDot ∧ dot + 1 ≠ hblankDot) :
    modeAt ly (dot + 1) = modeAt ly dot := by
  by_cases hly : ly < visibleLines
  · obtain ⟨h1, h2⟩ := h hly
    have e1 : (dot + 1 < transferDot) = (dot < transferDot) := propext (by omega)
    have e2 : (dot + 1 < hblankDot) = (dot < hblankDot) := propext (by omega)
    simp only [modeAt_visible hly, e1, e2]
  · rw [modeAt_vblank (Nat.not_lt.1 hly), modeAt_vblank (Nat.not_lt.1 hly)]

theorem Ppu.InFrame.endLine {p : Ppu} (hly : p.ly < linesPerFrame) (hmode : visibleLines ≤ p.ly → p.mode = .vblank) :
    p.endLine.1.InFrame := by
  have hdot : 0 < dotsPerLine := by decide
  have hlines : linesPerFrame = 154 := rfl
  have hvisible : visibleLines = 144 := rfl
  unfold Ppu.endLine
  split
  · next h =>
    refine ⟨hdot, show p.ly + 1 < linesPerFrame by omega, ?_⟩
    by_cases hv : p.ly + 1 = visibleLines
    · simp [hv, modeAt_vblank]
    · simp [hv, modeAt_visible (show p.ly + 1 < visibleLines by omega), transferDot]
  · next h =>
    split
    · exact ⟨hdot, show 0 < linesPerFrame by decide, rfl⟩
    · exact ⟨hdot, show p.ly + 1 < linesPerFrame by omega,
        (hmode (by omega)).trans (modeAt_vblank (show visibleLines ≤ p.ly + 1 by omega) 0).symm⟩

theorem Ppu.InFrame.tick {p : Ppu} (h : p.InFrame) : p.tick.1.InFrame := by
  obtain ⟨hdot, hly, hmode⟩ := h
  unfold Ppu.tick
  dsimp only
  split
  · exact endLine hly fun hv => hmode.trans (modeAt_vblank hv _)
  next hend =>
  have hnext : p.dot + 1 < dotsPerLine := by omega
  split
  · next h => exact ⟨hnext, hly, by simp [h.2, modeAt_visible h.1, transferDot, hblankDot]⟩
  split
  · next h => exact ⟨hnext, hly, by simp [h.2, modeAt_visible h.1, transferDot, hblankDot]⟩
  next htransfer hhblank =>
  exact ⟨hnext, hly, hmode.trans (modeAt_next_dot fun hv => ⟨fun e => htransfer ⟨hv, e⟩, fun e => hhblank ⟨hv, e⟩⟩).symm⟩

theorem Ppu.InFrame.advance {p : Ppu} (h : p.InFrame) (n : Nat) : (p.advance n).1.InFrame := by
  induction n generalizing p with
  | zero => exact h
  | succ n ih => exact ih h.tick

/-- A write to an LCD register moves no position. -/
theorem Ppu.InFrame.write {p : Ppu} (h : p.InFrame) (off : Nat) (v : Byte) : (p.write off v).InFrame := by
  unfold Ppu.write
  split <;> exact ⟨h.dot, h.ly, h.mode⟩

/-! ## The sound unit's counters and its silence (61_timer_and_sound.md) -/

theorem pulsePeriod_le (f : BitVec 11) : pulsePeriod f ≤ 8192 := by unfold pulsePeriod; omega

theorem wavePeriod_le (f : BitVec 11) : wavePeriod f ≤ 4096 := by unfold wavePeriod; omega

theorem noisePeriod_le (nr43 : Byte) : noisePeriod nr43 ≤ 112 * 2 ^ 15 := by
  have hdivisor : noiseDivisor (nr43.toNat % 8) ≤ 112 := by
    unfold noiseDivisor
    split <;> omega
  have hshift : 2 ^ (nr43.toNat / 16) ≤ 2 ^ 15 := Nat.pow_le_pow_right (by decide) (by omega)
  exact Nat.mul_le_mul hdivisor hshift

theorem triggerLength_le {length full : Nat} (h : length ≤ full) : triggerLength length full ≤ full := by
  unfold triggerLength
  split
  · exact le_rfl
  · exact h

theorem lengthClock_le (nrk4 : Byte) (length : Nat) (enabled : Bool) : (lengthClock nrk4 length enabled).1 ≤ length := by
  obtain ⟨-, e⟩ | ⟨-, e⟩ := lengthClock_cases nrk4 length enabled <;> simp [e]

/-- A length clock enables nothing. -/
theorem lengthClock_disabled (nrk4 : Byte) (length : Nat) : (lengthClock nrk4 length false).2 = false := by
  obtain ⟨-, e⟩ | ⟨-, e⟩ := lengthClock_cases nrk4 length false <;> simp [e]

/-- A generator tick moves the frequency timer within its range, and neither the length nor the enable flag (R511 to R513). -/
theorem Pulse.genTick_range {c : Pulse} {period top : Nat} (hc : c.freqTimer ≤ top) (hp : period ≤ top) :
    (c.genTick period).length = c.length ∧ (c.genTick period).enabled = c.enabled ∧ (c.genTick period).freqTimer ≤ top := by
  unfold Pulse.genTick
  split
  · exact ⟨rfl, rfl, hp⟩
  · exact ⟨rfl, rfl, (Nat.sub_le _ 1).trans hc⟩

theorem Wave.genTick_range {c : Wave} {period top : Nat} (hc : c.freqTimer ≤ top) (hp : period ≤ top) :
    (c.genTick period).length = c.length ∧ (c.genTick period).enabled = c.enabled ∧ (c.genTick period).freqTimer ≤ top := by
  unfold Wave.genTick
  split
  · exact ⟨rfl, rfl, hp⟩
  · exact ⟨rfl, rfl, (Nat.sub_le _ 1).trans hc⟩

theorem Noise.genTick_range {c : Noise} {top : Nat} {nr43 : Byte} (hc : c.freqTimer ≤ top) (hp : noisePeriod nr43 ≤ top) :
    (c.genTick nr43).length = c.length ∧ (c.genTick nr43).enabled = c.enabled ∧ (c.genTick nr43).freqTimer ≤ top := by
  unfold Noise.genTick
  split
  · exact ⟨rfl, rfl, hp⟩
  · exact ⟨rfl, rfl, (Nat.sub_le _ 1).trans hc⟩

namespace Sound.Bounded

variable {cfg : Params} {u : Sound}

theorem disable1 (h : u.Bounded cfg) : { u with ch1.enabled := false }.Bounded cfg :=
  { h with silent := fun hoff => ⟨rfl, (h.silent hoff).2⟩ }

theorem sweepCalc (h : u.Bounded cfg) : u.sweepCalc.2.Bounded cfg := iteInduction (fun _ => h.disable1) fun _ => h

theorem sweepClock (h : u.Bounded cfg) : u.sweepClock.Bounded cfg := by
  unfold Sound.sweepClock
  extract_lets t w period x
  have hx : x.Bounded cfg := { h with }
  split
  · exact { h with }
  split
  · have hy := hx.sweepCalc
    dsimp only
    split
    · exact sweepCalc { hy with }
    · exact hy
  · exact hx

theorem lengthClocks (h : u.Bounded cfg) : u.lengthClocks.Bounded cfg :=
  { h with
    length1 := (lengthClock_le ..).trans h.length1
    length2 := (lengthClock_le ..).trans h.length2
    length3 := (lengthClock_le ..).trans h.length3
    length4 := (lengthClock_le ..).trans h.length4
    silent := fun hoff => by
      obtain ⟨h1, h2, h3, h4⟩ := h.silent hoff
      simp only [Sound.lengthClocks, h1, h2, h3, h4, lengthClock_disabled, and_self] }

theorem envelopeClocks (h : u.Bounded cfg) : u.envelopeClocks.Bounded cfg := { h with }

theorem frameSequencerStep (h : u.Bounded cfg) : u.frameSequencerStep.Bounded cfg := by
  unfold Sound.frameSequencerStep
  split
  · extract_lets n v w x
    have hv : v.Bounded cfg := iteInduction (fun _ => h.lengthClocks) fun _ => h
    have hw : w.Bounded cfg := iteInduction (fun _ => hv.sweepClock) fun _ => hv
    have hx : x.Bounded cfg := iteInduction (fun _ => hw.envelopeClocks) fun _ => hw
    exact { hx with }
  · exact h

theorem stepOnFall (h : u.Bounded cfg) (before after : Bool) : (u.stepOnFall before after).Bounded cfg :=
  iteInduction (fun _ => h.frameSequencerStep) fun _ => h

theorem genTicks (h : u.Bounded cfg) : u.genTicks.Bounded cfg := by
  unfold Sound.genTicks
  split
  · obtain ⟨l1, e1, f1⟩ := Pulse.genTick_range h.freq1 (pulsePeriod_le (freq u.regs.nr13 u.regs.nr14))
    obtain ⟨l2, e2, f2⟩ := Pulse.genTick_range h.freq2 (pulsePeriod_le (freq u.regs.nr23 u.regs.nr24))
    obtain ⟨l3, e3, f3⟩ := Wave.genTick_range h.freq3 (wavePeriod_le (freq u.regs.nr33 u.regs.nr34))
    obtain ⟨l4, e4, f4⟩ := Noise.genTick_range h.freq4 (noisePeriod_le u.regs.nr43)
    exact {
      length1 := l1.trans_le h.length1
      length2 := l2.trans_le h.length2
      length3 := l3.trans_le h.length3
      length4 := l4.trans_le h.length4
      freq1 := f1
      freq2 := f2
      freq3 := f3
      freq4 := f4
      counter := h.counter
      block := h.block
      silent := by simpa only [e1, e2, e3, e4] using h.silent }
  · exact h

/-- A full block is emptied (R538). -/
theorem emitSample (h : u.Bounded cfg) : (u.emitSample cfg).Bounded cfg := by
  unfold Sound.emitSample
  extract_lets outs block
  split
  · exact { h with block := id }
  · next hne =>
    have hlength : block.length = u.out.block.length + 1 := by simp [block]
    exact { h with block := fun hpos => lt_of_le_of_ne (hlength.trans_le (h.block hpos)) hne }

theorem tick (h : u.Bounded cfg) : (u.tick cfg).Bounded cfg := by
  have hg := h.genTicks
  unfold Sound.tick
  extract_lets v
  split
  · exact emitSample { hg with counter := id }
  · next hne => exact { hg with counter := fun hpos => lt_of_le_of_ne (hg.counter hpos) hne }

theorem advance (h : u.Bounded cfg) (n : Nat) : (u.advance cfg n).Bounded cfg := by
  induction n generalizing u with
  | zero => exact h
  | succ n ih => exact ih h.tick

/-! ### Writes to the sound registers -/

/-- Power off silences every channel (R488). -/
theorem powerOff (h : u.Bounded cfg) : u.powerOff.Bounded cfg := { h with silent := fun _ => ⟨rfl, rfl, rfl, rfl⟩ }

theorem powerOn (h : u.Bounded cfg) : u.powerOn.Bounded cfg := { h with silent := nofun }

theorem writeNR52 (h : u.Bounded cfg) (v : Byte) : (u.writeNR52 v).Bounded cfg := by
  unfold Sound.writeNR52
  split
  · exact h.powerOff
  · exact h.powerOn
  · exact h

/-- With the power on nothing is asked of the enable flags. -/
theorem silent_of_on (hon : u.power = true) : u.power = false →
    u.ch1.enabled = false ∧ u.ch2.enabled = false ∧ u.ch3.enabled = false ∧ u.ch4.enabled = false :=
  fun hoff => absurd (hon.symm.trans hoff) nofun

section
variable (h : u.Bounded cfg) (hon : u.power = true)
include h hon

theorem trigger1 : u.trigger1.Bounded cfg := by
  unfold Sound.trigger1
  extract_lets r v w
  have hv : v.Bounded cfg :=
    { h with length1 := triggerLength_le h.length1, freq1 := pulsePeriod_le _, silent := silent_of_on hon }
  have hw : w.Bounded cfg := iteInduction (fun _ => hv.sweepCalc) fun _ => hv
  exact iteInduction (fun _ => hw) fun _ => hw.disable1

theorem trigger2 : u.trigger2.Bounded cfg := by
  unfold Sound.trigger2
  dsimp only
  split <;> exact { h with length2 := triggerLength_le h.length2, freq2 := pulsePeriod_le _, silent := silent_of_on hon }

theorem trigger3 : u.trigger3.Bounded cfg :=
  { h with
    length3 := triggerLength_le h.length3
    freq3 := wavePeriod_le _
    silent := silent_of_on hon }

theorem trigger4 : u.trigger4.Bounded cfg :=
  { h with
    length4 := triggerLength_le h.length4
    freq4 := noisePeriod_le _
    silent := silent_of_on hon }

theorem writeOn (off : Nat) (v : Byte) : (u.writeOn off v).Bounded cfg := by
  unfold Sound.writeOn
  dsimp only
  split
  case h_2 => exact { h with length1 := Nat.sub_le _ _ }
  case h_5 => exact iteInduction (fun _ => trigger1 { h with } hon) fun _ => { h with }
  case h_6 => exact { h with length2 := Nat.sub_le _ _ }
  case h_9 => exact iteInduction (fun _ => trigger2 { h with } hon) fun _ => { h with }
  case h_11 => exact { h with length3 := Nat.sub_le _ _ }
  case h_14 => exact iteInduction (fun _ => trigger3 { h with } hon) fun _ => { h with }
  case h_15 => exact { h with length4 := Nat.sub_le _ _ }
  case h_18 => exact iteInduction (fun _ => trigger4 { h with } hon) fun _ => { h with }
  all_goals exact { h with silent := silent_of_on hon }

end

/-- A WRITE TO A SOUND REGISTER KEEPS THE RANGES. -/
theorem write (h : u.Bounded cfg) (off : Nat) (v : Byte) : (u.write off v).Bounded cfg := by
  unfold Sound.write
  split
  · exact h.writeNR52 v
  split
  · next hon => exact h.writeOn hon off v
  · exact h

end Sound.Bounded

/-! ## The clock stays inside its second (62_boundary_units.md R565) -/

theorem Clock.second_subsec (k : Clock) (free : Nat) : (k.second free).1.subsec = k.subsec := by
  unfold Clock.second
  dsimp only
  split
  · split
    · split <;> rfl
    · rfl
  · rfl

theorem Clock.secondsPass_subsec (n : Nat) (k : Clock) (free : Nat) : (Clock.secondsPass n k free).1.subsec = k.subsec := by
  induction n generalizing k free with
  | zero => rfl
  | succ n ih => exact (ih _ _).trans (k.second_subsec free)

theorem Cart.ClockInSecond.advance {c : Cart} (h : c.ClockInSecond) (t free : Nat) : (c.advance t free).1.ClockInSecond := by
  unfold Cart.advance
  split
  · exact (Clock.secondsPass_subsec _ _ _).trans_lt (Nat.mod_lt _ (by decide))
  · exact h

theorem Cart.writeReg_clock (c : Cart) (a : Word) (v : Byte) : (c.writeReg a v).clock = c.clock := by
  unfold Cart.writeReg
  dsimp only
  split
  case h_9 => split <;> rfl
  all_goals rfl

theorem Clock.write_subsec (v : Byte) (k : Clock) (r : ClockReg) : (k.write v r).subsec = k.subsec := by cases r <;> rfl

theorem Cart.ClockInSecond.write {c : Cart} (h : c.ClockInSecond) (a : Word) (v : Byte) : (c.write a v).ClockInSecond := by
  unfold Cart.write
  split
  · rwa [Cart.ClockInSecond, Cart.writeReg_clock]
  split
  · exact (Clock.write_subsec v c.clock _).trans_lt h
  · exact h
  · exact h

/-! ## The invariant but for the memories -/

/-- A copy to OAM changes OAM only (20_memory.md R130). -/
theorem copyToOam_eq (n i : Nat) (src : Word) (s : State) :
    copyToOam n i src s = { s with ram.oam := (copyToOam n i src s).ram.oam } := by
  induction n generalizing i src s with
  | zero => rfl
  | succ n ih => rw [copyToOam, ih]

/-- The invariant but for the memories. What Mono fixes is one equation between values, so that an update which leaves those
fields alone leaves it as it is. -/
structure State.InRange (s : State) : Prop where
  frame : s.ppu.InFrame
  mono : s.cfg.mode = .mono →
    (s.bus.vbk, s.bus.svbk, s.cpu.speed, s.cpu.speedArmed, s.hdma.active) = (0, 0, .normal, false, false)
  sound : s.sound.Bounded s.cfg
  clock : s.cart.ClockInSecond

theorem State.MonoFixed.eq {s : State} (h : s.MonoFixed) :
    (s.bus.vbk, s.bus.svbk, s.cpu.speed, s.cpu.speedArmed, s.hdma.active) = (0, 0, .normal, false, false) := by
  rw [h.vbk, h.svbk, h.speed, h.armed, h.hdma]

theorem State.MonoFixed.of_eq {s : State}
    (h : (s.bus.vbk, s.bus.svbk, s.cpu.speed, s.cpu.speedArmed, s.hdma.active) = (0, 0, .normal, false, false)) :
    s.MonoFixed := by
  simp only [Prod.mk.injEq] at h
  obtain ⟨hvbk, hsvbk, hspeed, harmed, hhdma⟩ := h
  exact ⟨hvbk, hsvbk, hspeed, harmed, hhdma⟩

/-- The invariant is the canonical form of the memories and the rest. -/
theorem State.inv_iff (s : State) : s.Inv ↔ s.MemoryCanonical ∧ s.InRange where
  mp h := ⟨h.memory, { h with mono := fun hm => (h.mono hm).eq }⟩
  mpr := fun ⟨hmem, h⟩ => { h with memory := hmem, mono := fun hm => .of_eq (h.mono hm) }

namespace State.InRange

variable {s : State}

theorem hdma_idle (h : s.InRange) (hm : s.cfg.mode = .mono) : s.hdma.active = false := (State.MonoFixed.of_eq (h.mono hm)).hdma

/-- In Mono the transfer stays idle; in Color it is free. -/
theorem setHdma (h : s.InRange) {d : Hdma} (hd : s.cfg.mode = .mono → d.active = false) : { s with hdma := d }.InRange :=
  { h with mono := fun hm => by simpa only [hd hm, h.hdma_idle hm] using h.mono hm }

/-! ### A machine cycle -/

theorem timerAdvance (h : s.InRange) (n : Nat) : (timerAdvance n s).InRange := { h with sound := h.sound.stepOnFall _ _ }

theorem soundAdvance (h : s.InRange) (n : Nat) : (soundAdvance n s).InRange := { h with sound := h.sound.advance n }

theorem cartAdvance (h : s.InRange) (n : Nat) : (cartAdvance n s).InRange := { h with clock := h.clock.advance n _ }

theorem statUpdate (h : s.InRange) : (statUpdate s).InRange := { h with }

theorem copyToVram (h : s.InRange) (n : Nat) (src dst : Word) : (copyToVram n src dst s).InRange := by
  rw [copyToVram_eq]
  exact { h with }

theorem hblankBlock (h : s.InRange) : (hblankBlock s).InRange := by
  unfold Machine.hblankBlock
  split
  · next hactive =>
    refine (h.copyToVram 16 s.hdma.src s.hdma.dst).setHdma fun hm => ?_
    rw [copyToVram_eq] at hm
    exact absurd (hactive.symm.trans (h.hdma_idle hm)) nofun
  · exact h

theorem pixelEvents (h : s.InRange) (e : Events) : (pixelEvents e s).InRange := by
  unfold Machine.pixelEvents
  extract_lets x y
  have hx : x.InRange := { h with }
  have hy : y.InRange := iteInduction (fun _ => hx.hblankBlock) fun _ => hx
  exact iteInduction (fun _ => hy.statUpdate) fun _ => hy

theorem pixelAdvance (h : s.InRange) (n : Nat) : (pixelAdvance n s).InRange :=
  have hp : { s with ppu := (s.ppu.advance n).1 }.InRange := { h with frame := h.frame.advance n }
  hp.pixelEvents (s.ppu.advance n).2

theorem cycle (h : s.InRange) : (cycle s).InRange :=
  { (((h.timerAdvance timerTicks).soundAdvance (ticksPerCycle s.cpu.speed)).pixelAdvance
      (ticksPerCycle s.cpu.speed)).cartAdvance (ticksPerCycle s.cpu.speed) with }

/-! ### A bus write -/

theorem divReset (h : s.InRange) : (divReset s).InRange := { h with sound := h.sound.stepOnFall _ _ }

theorem joypadEvaluate (h : s.InRange) : (joypadEvaluate s).InRange := { h with }

theorem copyToOam (h : s.InRange) (n i : Nat) (src : Word) : (copyToOam n i src s).InRange := by
  rw [copyToOam_eq]
  exact { h with }

theorem copyBlocks (h : s.InRange) (n : Nat) (src dst : Word) : (copyBlocks n src dst s).InRange := by
  induction n generalizing src dst s with
  | zero => exact h
  | succ n ih => exact ih (h.copyToVram 16 src dst) _ _

theorem lcdWrite (h : s.InRange) (off : Nat) (v : Byte) : (lcdWrite off v s).InRange := by
  have hw : { s with ppu := s.ppu.write off v }.InRange := { h with frame := h.frame.write off v }
  exact iteInduction (fun _ => hw.statUpdate) fun _ => hw

theorem writeHdma5 (h : s.InRange) (hc : s.cfg.mode = .color) (v : Byte) : (writeHdma5 v s).InRange := by
  unfold Machine.writeHdma5
  split
  · exact h.setHdma fun _ => rfl
  split
  · exact (h.copyBlocks _ _ _).setHdma fun _ => rfl
  · exact h.setHdma fun hm => absurd (hc.symm.trans hm) nofun

theorem colorRegWrite (h : s.InRange) (hc : s.cfg.mode = .color) (off : Nat) (v : Byte) : (colorRegWrite off v s).InRange := by
  unfold Machine.colorRegWrite
  split
  case h_7 => exact h.writeHdma5 hc v
  all_goals exact { h with mono := fun hm => absurd (hc.symm.trans hm) nofun }

/-- In Mono a color register takes no write (20_memory.md R119). -/
theorem colorWrite (h : s.InRange) (off : Nat) (v : Byte) : (colorWrite off v s).InRange := by
  unfold Machine.colorWrite
  split
  · exact h
  · next hc => exact h.colorRegWrite hc off v

theorem ioWrite (h : s.InRange) (off : Nat) (v : Byte) : (ioWrite off v s).InRange := by
  unfold Machine.ioWrite
  split
  · exact { h with sound := h.sound.write off v }
  split
  · exact { h with }
  split
  · have hd : { s with bus.dmaReg := v }.InRange := { h with }
    exact hd.copyToOam 160 0 (word v 0x00)
  split
  · exact h.lcdWrite off v
  split
  case h_1 => exact joypadEvaluate { h with }
  case h_4 => exact h.divReset
  case h_9 => exact h.colorWrite _ v
  all_goals exact { h with }

theorem busWrite (h : s.InRange) (a : Word) (v : Byte) : (busWrite a v s).InRange := by
  have hcart : { s with cart := s.cart.write a v }.InRange := { h with clock := h.clock.write a v }
  unfold Machine.busWrite
  split
  case h_1 => exact hcart
  case h_3 => exact hcart
  case h_8 => exact h
  case h_9 => exact h.ioWrite _ v
  all_goals exact { h with }

end State.InRange

/-! ## Every move keeps the invariant -/

theorem Moves.inRange {A : Word → Prop} {s t : State} (h : Moves A s t) (hs : s.InRange) : t.InRange := by
  induction h with
  | refl => exact hs
  | cycle _ ih => exact ih.cycle
  | write a v _ _ ih => exact ih.busWrite a v
  | cpu p hp _ ih =>
    refine { ih with mono := fun hm => ?_ }
    obtain ⟨hspeed, harmed⟩ := hp hm
    rw [hspeed, harmed]
    exact ih.mono hm
  | irq _ _ ih | joyPrev _ _ ih => exact { ih with }
  | divReset _ ih => exact ih.divReset

theorem Moves.memoryCanonical {A : Word → Prop} {s t : State} (h : Moves A s t) (hs : s.MemoryCanonical) :
    t.MemoryCanonical := by
  induction h with
  | refl => exact hs
  | cycle _ ih => exact cycle_canonical ih
  | write a v _ _ ih => exact busWrite_canonical ih a v
  | cpu _ _ _ ih | irq _ _ ih | joyPrev _ _ ih | divReset _ ih => exact ih.congr rfl

/-- Settles O34: a step is made of elementary moves, and each of them keeps both halves of the invariant. -/
theorem stepKeepsTheInvariant : Obligations.StepKeepsTheInvariant := fun s t hs hstep => by
  obtain ⟨hmem, hrange⟩ := s.inv_iff.1 hs
  have hmoves := moves_of_step hstep
  exact t.inv_iff.2 ⟨hmoves.memoryCanonical hmem, hmoves.inRange hrange⟩

end Sys2Proof.Machine

/-! PROOF. The joypad's lines, the pairs' halves, and the registers outside the sound unit: their reads and their plain writes. -/

namespace Sys2Proof.Machine

open Sys2Proof.Claims

/-! ## The joypad (10_state.md R44; 60_exceptions.md R440) -/

/-- A group of buttons pulls line `k` low when it is selected and the button at `i + k` is pressed. -/
theorem getLsbD_group (off : Bool) (joy : Byte) {i k : Nat} (hk : k < 4) :
    (if off then 0#4 else joy.extractLsb' i 4).getLsbD k = (!off && joy.getLsbD (i + k)) := by
  cases off <;> simp [hk]

/-- The lines, each by its two groups. -/
theorem Joypad.getLsbD_lines (j : Joypad) {k : Nat} (hk : k < 4) :
    j.lines.getLsbD k = !((!j.sel.getLsbD 0 && j.joy.getLsbD k) || (!j.sel.getLsbD 1 && j.joy.getLsbD (4 + k))) := by
  rw [Joypad.lines, BitVec.getLsbD_not, BitVec.getLsbD_or, getLsbD_group _ _ hk, getLsbD_group _ _ hk, Nat.zero_add]
  simp [hk]

/-- Some line falls exactly when a bit of the old lines is not in the new ones. -/
theorem falls_iff (old new : BitVec 4) :
    old &&& ~~~new ≠ 0 ↔ ∃ k, k < 4 ∧ old.getLsbD k = true ∧ new.getLsbD k = false := by
  revert old new
  decide

/-- Settles O9: the lines bit by bit, and the falling edge as a bit of the old lines that the new ones lack. -/
theorem joypadRequestsOnAFallingLine : Obligations.JoypadRequestsOnAFallingLine := by
  intro s
  refine ⟨fun k hk => ?_, fun hfall => ?_, fun hstay => ?_⟩
  · simp only [s.joypad.getLsbD_lines hk, Bool.not_eq_false', Bool.or_eq_true, Bool.and_eq_true, Bool.not_eq_true']
  · have h := decide_eq_true ((falls_iff s.joypad.prev s.joypad.lines).2 hfall)
    simp only [joypadEvaluate, h]
    rfl
  · have h : decide (s.joypad.prev &&& ~~~s.joypad.lines ≠ 0) = false := by
      refine decide_eq_false fun hne => ?_
      obtain ⟨k, hk, hold, hnew⟩ := (falls_iff _ _).1 hne
      exact absurd ((hstay k hk hold).symm.trans hnew) nofun
    simp only [joypadEvaluate, h]
    rfl

/-! ## INC and DEC of a pair, on its halves (43_alu16.md R301, R302) -/

theorem incHalves_eq (v : Word) : incHalves v = v + 1 := by
  apply BitVec.eq_of_toNat_eq
  have hv := v.isLt
  have hl := lo_toNat v
  have hh := hi_toNat v
  simp only [incHalves, word_toNat]
  split <;> bv_omega

theorem decHalves_eq (v : Word) : decHalves v = v - 1 := by
  apply BitVec.eq_of_toNat_eq
  have hv := v.isLt
  have hl := lo_toNat v
  have hh := hi_toNat v
  simp only [decHalves, word_toNat]
  split <;> bv_omega

/-- Settles O25: on both halves a pair steps by one. -/
theorem incrementAndDecrementPairs : Obligations.IncrementAndDecrementPairs := by
  intro q s
  refine ⟨?_, ?_⟩
  · rw [exec_incPairRow, incPair, incHalves_eq]
    rfl
  · rw [exec_decPairRow, decPair, decHalves_eq]
    rfl

/-! ## The I/O window (20_memory.md R110) -/

theorem ioAddr_toNat {off : Nat} (hoff : off < 0x80) : (ioAddr off).toNat = 0xFF00 + off := by
  rw [ioAddr, BitVec.toNat_ofNat]
  omega

theorem regionOf_ioAddr {off : Nat} (hoff : off < 0x80) : regionOf (ioAddr off) = .io := by
  have h := ioAddr_toNat hoff
  unfold regionOf
  dsimp only
  repeat rw [if_neg (by omega)]
  rw [if_pos (by omega)]

theorem busRead_ioAddr (s : State) (off : Nat) (hoff : off < 0x80 := by decide) : busRead s (ioAddr off) = ioRead s off := by
  rw [busRead, regionOf_ioAddr hoff, ioAddr_toNat hoff]
  simp only [Nat.add_sub_cancel_left]

theorem busWrite_ioAddr (s : State) (v : Byte) (off : Nat) (hoff : off < 0x80 := by decide) :
    busWrite (ioAddr off) v s = ioWrite off v s := by
  rw [busWrite, regionOf_ioAddr hoff, ioAddr_toNat hoff]
  simp only [Nat.add_sub_cancel_left]

/-- Above the LCD registers the window holds the registers marked C only. -/
theorem ioWrite_color (s : State) (v : Byte) {off : Nat} (h : 0x4B < off) : ioWrite off v s = colorWrite off v s := by
  unfold ioWrite
  repeat rw [if_neg (by omega)]
  split
  case h_9 => rfl
  all_goals omega

section
variable {s : State} {b : Byte}

/-- A main register reads what `mainRegRead` gives. -/
theorem busRead_main (off : Nat) (h : mainRegRead s off = some b) (hoff : off < 0x80 := by decide) :
    busRead s (ioAddr off) = b := by
  rw [busRead_ioAddr s off hoff, ioRead, h]
  rfl

/-- An LCD register reads what the pixel port gives (R117). -/
theorem busRead_lcd (off : Nat) (h : s.ppu.read off = some b) (hoff : off < 0x80 := by decide)
    (hmain : mainRegRead s off = none := by rfl) (hsound : s.sound.read off = none := by rfl) :
    busRead s (ioAddr off) = b := by
  rw [busRead_ioAddr s off hoff, ioRead, hmain, hsound, h]
  rfl

variable (hc : s.cfg.mode = .color)
include hc

/-- At an offset of no other unit a read in Color is that of a register marked C, or the fill. -/
theorem busRead_color (off : Nat) (hoff : off < 0x80 := by decide) (hmain : mainRegRead s off = none := by rfl)
    (hsound : s.sound.read off = none := by rfl) (hlcd : s.ppu.read off = none := by rfl)
    (hwave : waveRead s off = none := by rfl) : busRead s (ioAddr off) = (colorRegRead s off).getD s.cfg.fill := by
  rw [busRead_ioAddr s off hoff, ioRead, hmain, hsound, hlcd, hwave, colorRead, hc]
  rfl

theorem busWrite_color (v : Byte) (off : Nat) (h : 0x4B < off := by decide) (hoff : off < 0x80 := by decide) :
    busWrite (ioAddr off) v s = colorRegWrite off v s := by
  rw [busWrite_ioAddr s v off hoff, ioWrite_color s v h, colorWrite, hc]

end

/-- The bits of STAT (62_boundary_units.md R557), the mode by its code. -/
theorem readStat_eq (p : Ppu) :
    p.readStat = 1#1 ++ p.statEn ++ BitVec.ofBool (decide (BitVec.ofNat 8 p.ly = p.lyc)) ++
      (match p.mode with | .hblank => 0b00#2 | .vblank => 0b01#2 | .oamScan => 0b10#2 | .pixelTransfer => 0b11#2) := by
  obtain ⟨mode, _⟩ := p
  cases mode <;> rfl

/-- SC reads its unused bits 1; bit 1 is one of them in Mono only (R112). -/
theorem busRead_sc (s : State) : busRead s 0xFF02 = s.serial.sc ||| (if s.cfg.mode = .mono then 0x7E else 0x7C) := by
  refine busRead_main 0x02 ?_
  cases hm : s.cfg.mode <;> simp [mainRegRead, hm]

/-- The work-RAM bank after a write of SVBK (10_state.md R49). -/
theorem wbank_svbk (r : BusRegs) (v : Byte) :
    { r with svbk := v.extractLsb' 0 3 }.wbank = if v.toNat % 8 = 0 then 1 else v.toNat % 8 := by
  have h : (v.extractLsb' 0 3).toNat = v.toNat % 8 := BitVec.extractLsb'_toNat ..
  simp only [BusRegs.wbank, ← BitVec.toNat_inj, h]
  rfl

theorem place_of_wramX {a : Word} (hr : regionOf a = .wramX) (s : State) : s.place a = some (.wram, s.bus.wramKey a) := by
  rw [State.place, hr]

theorem place_of_vram {a : Word} (hr : regionOf a = .vram) (s : State) :
    s.place a = some (.vram, s.bus.vramKey (a.toNat - 0x8000)) := by
  rw [State.place, hr]

/-- The first byte of the banked work RAM and of video RAM. -/
theorem place_wramX (s : State) : s.place 0xD000 = some (.wram, s.bus.wbank * 0x1000) := by
  rw [place_of_wramX rfl]
  simp [BusRegs.wramKey]

theorem place_vram (s : State) : s.place 0x8000 = some (.vram, s.bus.vbk.toNat * 0x2000) := by
  rw [place_of_vram rfl]
  simp [BusRegs.vramKey]

/-- Settles O43: each register by the unit that answers it, each plain write as the one field it stores. -/
theorem registersReadAsTheTableSays : Obligations.RegistersReadAsTheTableSays := by
  intro s v
  refine ⟨?mainReads, ?lcdReads, fun hc => ?colorReads, ?mainWrites, ?lcdWrites, fun hc => ?colorWrites⟩
  case mainReads =>
    exact ⟨busRead_main 0x00 rfl, busRead_main 0x01 rfl, busRead_sc s, busRead_main 0x04 rfl, busRead_main 0x05 rfl,
      busRead_main 0x06 rfl, busRead_main 0x07 rfl, busRead_main 0x0F rfl, busRead_main 0x46 rfl, rfl⟩
  case lcdReads =>
    have hstat := (busRead_lcd 0x41 rfl).trans (readStat_eq s.ppu)
    exact ⟨busRead_lcd 0x40 rfl, hstat, busRead_lcd 0x42 rfl, busRead_lcd 0x43 rfl, busRead_lcd 0x44 rfl,
      busRead_lcd 0x45 rfl, busRead_lcd 0x47 rfl, busRead_lcd 0x48 rfl, busRead_lcd 0x49 rfl, busRead_lcd 0x4A rfl,
      busRead_lcd 0x4B rfl⟩
  case colorReads =>
    refine ⟨busRead_color hc 0x4D, busRead_color hc 0x4F, busRead_color hc 0x55, busRead_color hc 0x70, fun off h1 h2 => ?_⟩
    obtain rfl | rfl | rfl | rfl : off = 0x51 ∨ off = 0x52 ∨ off = 0x53 ∨ off = 0x54 := by omega
    · exact busRead_color hc 0x51
    · exact busRead_color hc 0x52
    · exact busRead_color hc 0x53
    · exact busRead_color hc 0x54
  case mainWrites =>
    exact ⟨busWrite_ioAddr s v 0x00, busWrite_ioAddr s v 0x01, busWrite_ioAddr s v 0x02, busWrite_ioAddr s v 0x0F, rfl⟩
  case lcdWrites =>
    exact ⟨busWrite_ioAddr s v 0x40, busWrite_ioAddr s v 0x42, busWrite_ioAddr s v 0x43, busWrite_ioAddr s v 0x47,
      busWrite_ioAddr s v 0x48, busWrite_ioAddr s v 0x49, busWrite_ioAddr s v 0x4A, busWrite_ioAddr s v 0x4B⟩
  case colorWrites =>
    have hvbk : busWrite 0xFF4F v s = { s with bus.vbk := v.extractLsb' 0 1 } := busWrite_color hc v 0x4F
    have hsvbk : busWrite 0xFF70 v s = { s with bus.svbk := v.extractLsb' 0 3 } := busWrite_color hc v 0x70
    refine ⟨busWrite_color hc v 0x4D, hvbk, hsvbk, ?_, ?_⟩
    · rw [place_wramX, hsvbk, wbank_svbk]
    · rw [place_vram, hvbk]
      exact congrArg (fun n => some (Store.vram, n * 0x2000)) (BitVec.extractLsb'_toNat ..)

end Sys2Proof.Machine

/-! PROOF. The address map, and read after write in plain memory. -/

namespace Sys2Proof.Machine

open Sys2Proof.Claims

/-! ## The address map (20_memory.md R81) -/

/-- An address lies in the range of its region. -/
theorem regionOf_bounds (a : Word) :
    (regionRange (regionOf a)).1 ≤ a.toNat ∧ a.toNat ≤ (regionRange (regionOf a)).2 := by
  have ha := a.isLt
  unfold regionOf
  dsimp only
  repeat'
    apply iteInduction (motive := fun r => (regionRange r).1 ≤ a.toNat ∧ a.toNat ≤ (regionRange r).2)
    all_goals intro _
  all_goals
    simp only [regionRange]
    omega

/-- The ranges of two regions do not meet. -/
theorem regionRange_disjoint {r r' : Region} (h : r ≠ r') :
    (regionRange r).2 < (regionRange r').1 ∨ (regionRange r').2 < (regionRange r).1 := by
  revert h
  cases r <;> cases r' <;> decide

theorem regionOf_iff (a : Word) (r : Region) :
    regionOf a = r ↔ (regionRange r).1 ≤ a.toNat ∧ a.toNat ≤ (regionRange r).2 := by
  have ha := regionOf_bounds a
  refine ⟨fun h => h ▸ ha, fun h => by_contra fun hne => ?_⟩
  have := regionRange_disjoint hne
  omega

/-- An address 0x2000 below an echo address is in work RAM (R97). -/
theorem regionOf_unecho {a : Word} (hr : regionOf a = .echo) :
    regionOf (a - 0x2000) = .wram0 ∨ regionOf (a - 0x2000) = .wramX := by
  have ha := (regionOf_iff a .echo).1 hr
  simp only [regionOf_iff, regionRange] at ha ⊢
  bv_omega

theorem busRead_echo {a : Word} (hr : regionOf a = .echo) (s : State) : busRead s a = busRead s (a - 0x2000) := by
  simp only [busRead, hr]
  obtain h | h := regionOf_unecho hr
  · rw [h]
    rfl
  · rw [h]
    rfl

theorem busWrite_echo {a : Word} (hr : regionOf a = .echo) (v : Byte) (s : State) :
    busWrite a v s = busWrite (a - 0x2000) v s := by
  simp only [busWrite, hr]
  obtain h | h := regionOf_unecho hr
  · rw [h]
    rfl
  · rw [h]
    rfl

/-- Settles O41: each address is in the range of its region and the ranges are disjoint; the echo is work RAM. -/
theorem everyAddressHasOneRegion : Obligations.EveryAddressHasOneRegion :=
  ⟨regionOf_iff, fun s _ v hr => ⟨busRead_echo hr s, busWrite_echo hr v s⟩⟩

/-! ## Reads after a byte has been put into a cell -/

/-- The memories that the I/O window reaches: the wave pattern and the two palettes. -/
def InWindow (st : Store) : Prop := st = .wave ∨ st = .bgpal ∨ st = .obpal

/-- No cell behind an address is one of the I/O window's. -/
theorem not_inWindow_of_place {s : State} {a : Word} {c : Store × Nat} (h : s.place a = some c) : ¬ InWindow c.1 := by
  unfold State.place at h
  repeat' split at h
  all_goals cases h
  all_goals simp [InWindow]

/-- The I/O window reads no other memory. -/
theorem ioRead_putCell {s : State} {c : Store × Nat} (hc : ¬ InWindow c.1) (v : Byte) (off : Nat) :
    ioRead (s.putCell v c) off = ioRead s off := by
  obtain ⟨st, k⟩ := c
  cases st with
  | wave => exact absurd (.inl rfl) hc
  | bgpal => exact absurd (.inr (.inl rfl)) hc
  | obpal => exact absurd (.inr (.inr rfl)) hc
  | _ => rfl

@[simp] theorem putCell_cfg (s : State) (v : Byte) (c : Store × Nat) : (s.putCell v c).cfg = s.cfg := by
  obtain ⟨st, k⟩ := c
  cases st <;> rfl

@[simp] theorem putCell_irq (s : State) (v : Byte) (c : Store × Nat) : (s.putCell v c).irq = s.irq := by
  obtain ⟨st, k⟩ := c
  cases st <;> rfl

@[simp] theorem putCell_clockReg (s : State) (v : Byte) (c : Store × Nat) : (s.putCell v c).cart.clockReg = s.cart.clockReg := by
  obtain ⟨st, k⟩ := c
  cases st <;> rfl

@[simp] theorem putCell_ramBank (s : State) (v : Byte) (c : Store × Nat) : (s.putCell v c).cart.ramBank = s.cart.ramBank := by
  obtain ⟨st, k⟩ := c
  cases st <;> rfl

@[simp] theorem putCell_clock (s : State) (v : Byte) (c : Store × Nat) : (s.putCell v c).cart.clock = s.cart.clock := by
  obtain ⟨st, k⟩ := c
  cases st <;> rfl

/-! ### External RAM (62_boundary_units.md R562, R563, R565) -/

section
variable {c : Cart} {a : Word} (ha : 0x8000 ≤ a.toNat)
include ha

theorem Cart.read_of_clockReg {r : ClockReg} (hr : c.clockReg = some r) (fill : Byte) :
    c.read fill a = c.clock.read fill r := by
  rw [Cart.read, if_neg (Nat.not_lt.2 ha), hr]

theorem Cart.read_of_ramBank {b : Nat} (hr : c.clockReg = none) (hb : c.ramBank = some b) (fill : Byte) :
    c.read fill a = cell .xram c.xram (ramKey b a) := by
  rw [Cart.read, if_neg (Nat.not_lt.2 ha), hr, hb]

theorem Cart.read_of_absent (hr : c.clockReg = none) (hb : c.ramBank = none) (fill : Byte) : c.read fill a = fill := by
  rw [Cart.read, if_neg (Nat.not_lt.2 ha), hr, hb]

theorem Cart.write_of_ramBank {b : Nat} (hr : c.clockReg = none) (hb : c.ramBank = some b) (v : Byte) :
    c.write a v = { c with xram := c.xram.set (ramKey b a) v } := by
  rw [Cart.write, if_neg (Nat.not_lt.2 ha), hr, hb]

theorem Cart.write_of_absent (hr : c.clockReg = none) (hb : c.ramBank = none) (v : Byte) : c.write a v = c := by
  rw [Cart.write, if_neg (Nat.not_lt.2 ha), hr, hb]

end

/-- A cartridge address without a cell reads a clock register or the fill. -/
theorem cartRead_putCell {s : State} {b : Word} {c : Store × Nat} (hr : regionOf b = .xram) (hb : s.place b = none) (v : Byte) :
    (s.putCell v c).cart.read s.cfg.fill b = s.cart.read s.cfg.fill b := by
  have ha := toNat_of_regionOf_xram hr
  have hreg := putCell_clockReg s v c
  have hbank := putCell_ramBank s v c
  cases hc : s.cart.clockReg with
  | some r => rw [Cart.read_of_clockReg ha hc, Cart.read_of_clockReg ha (hreg.trans hc), putCell_clock]
  | none =>
    cases hk : s.cart.ramBank with
    | some k => simp only [State.place, hr, hc, hk, reduceCtorEq] at hb
    | none => rw [Cart.read_of_absent ha hc hk, Cart.read_of_absent ha (hreg.trans hc) (hbank.trans hk)]

/-- An address without a cell reads a register or the fill, and no cell moves those. -/
theorem busRead_putCell_of_no_place {s : State} {b : Word} {c : Store × Nat} (hb : s.place b = none) (hc : ¬ InWindow c.1)
    (v : Byte) : busRead (s.putCell v c) b = busRead s b := by
  unfold busRead
  split
  case h_3 hr =>
    rw [putCell_cfg]
    exact cartRead_putCell hr hb v
  case h_8 => rw [putCell_cfg]
  case h_9 => exact ioRead_putCell hc v _
  case h_11 => rw [putCell_irq]
  all_goals
    next hr => simp only [State.place, hr, reduceCtorEq] at hb

/-- An address that does not reach the cell reads as before. -/
theorem busRead_putCell_of_place_ne {s : State} {b : Word} {c : Store × Nat} (hc : ¬ InWindow c.1) (hb : s.place b ≠ some c)
    (v : Byte) : busRead (s.putCell v c) b = busRead s b := by
  cases hd : s.place b with
  | none => exact busRead_putCell_of_no_place hd hc v
  | some d => exact busRead_putCell_of_ne v hd fun e => hb (e ▸ hd)

/-- A cell that has been set reads the byte. -/
theorem cell_set_self (st : Store) (m : Memory) (k : Nat) (v : Byte) : cell st (m.set k v) k = v := by
  rw [cell, Memory.get?_set_self]
  rfl

/-- An address that reaches the cell reads the byte. -/
theorem busRead_putCell_self {s : State} {b : Word} {c : Store × Nat} (hb : s.place b = some c) (v : Byte) :
    busRead (s.putCell v c) b = v := by
  rw [busRead_of_place ((place_putCell s v c b).trans hb), memoryOf_putCell, if_pos rfl, cell_set_self]

/-- Settles O40: the write puts the byte into the cell, and an address reads it exactly if it reaches that cell. -/
theorem storedByteReadsBack : Obligations.StoredByteReadsBack := by
  intro s a b v c ha hrom
  rw [busWrite_of_place v ha hrom]
  refine ⟨?_, place_putCell s v c b⟩
  split
  · next hb => exact busRead_putCell_self hb v
  · next hb => exact busRead_putCell_of_place_ne (not_inWindow_of_place ha) hb v

end Sys2Proof.Machine

/-! PROOF. The copies: bytes read one after another and put into cells. -/

namespace Sys2Proof.Machine

open Sys2Proof.Claims

/-! ## Bytes read from consecutive addresses and put into cells, in order -/

/-- What a cell lists, if anything has written it. -/
def State.listed (s : State) (c : Store × Nat) : Option Byte := (s.memoryOf c.1).get? c.2

theorem listed_putCell (s : State) (v : Byte) (c d : Store × Nat) :
    (s.putCell v c).listed d = if d = c then some v else s.listed d := by
  rw [State.listed, memoryOf_putCell]
  split
  · next h => simp only [Memory.get?_set, Prod.ext_iff, h, true_and, State.listed]
  · next h => rw [if_neg fun e => h (congrArg Prod.fst e), State.listed]

/-- An address with a listed cell reads what is listed. -/
theorem busRead_of_listed {s : State} {a : Word} {c : Store × Nat} {v : Byte} (ha : s.place a = some c)
    (hv : s.listed c = some v) : busRead s a = v := by
  rw [busRead_of_place ha, cell, show (s.memoryOf c.1).get? c.2 = some v from hv]
  rfl

/-- `n` bytes from `src` on, each read in the state that the puts before it left. -/
def copyCells : Nat → Word → (Nat → Store × Nat) → State → State
  | 0, _, _, s => s
  | n + 1, src, dst, s => copyCells n (src + 1) (fun j => dst (j + 1)) (s.putCell (busRead s src) (dst 0))

/-- A copy keeps every cell that is not one of its destinations. -/
theorem listed_copyCells_of_ne (n : Nat) (src : Word) {dst : Nat → Store × Nat} (s : State) {c : Store × Nat}
    (hc : ∀ j, j < n → c ≠ dst j) : (copyCells n src dst s).listed c = s.listed c := by
  induction n generalizing src dst s with
  | zero => rfl
  | succ n ih =>
    rw [copyCells, ih _ _ fun j hj => hc (j + 1) (Nat.succ_lt_succ hj), listed_putCell, if_neg (hc 0 (Nat.succ_pos n))]

/-- What makes a copy one of the bytes that stood at the source before it: the destinations are distinct cells outside the I/O
window, and none of them is read after it has been written. -/
structure CopyKeepsSource (n : Nat) (src : Word) (dst : Nat → Store × Nat) (s : State) : Prop where
  plain : ∀ j, j < n → ¬ InWindow (dst j).1
  distinct : ∀ i j, i < j → j < n → dst i ≠ dst j
  source : ∀ i j, i < j → j < n → s.place (src + BitVec.ofNat 16 j) ≠ some (dst i)

theorem add_ofNat_succ (a : Word) (j : Nat) : a + 1 + BitVec.ofNat 16 j = a + BitVec.ofNat 16 (j + 1) := by
  rw [BitVec.ofNat_add, BitVec.add_assoc, BitVec.add_comm (1 : Word)]
  rfl

/-- The rest of such a copy is such a copy. -/
theorem CopyKeepsSource.tail {n : Nat} {src : Word} {dst : Nat → Store × Nat} {s : State}
    (h : CopyKeepsSource (n + 1) src dst s) (v : Byte) :
    CopyKeepsSource n (src + 1) (fun j => dst (j + 1)) (s.putCell v (dst 0)) where
  plain j hj := h.plain (j + 1) (Nat.succ_lt_succ hj)
  distinct i j hij hj := h.distinct (i + 1) (j + 1) (Nat.succ_lt_succ hij) (Nat.succ_lt_succ hj)
  source i j hij hj := by
    rw [place_putCell, add_ofNat_succ]
    exact h.source (i + 1) (j + 1) (Nat.succ_lt_succ hij) (Nat.succ_lt_succ hj)

/-- Each destination lists what its source address read before the copy. -/
theorem listed_copyCells {n : Nat} {src : Word} {dst : Nat → Store × Nat} {s : State}
    (h : CopyKeepsSource n src dst s) {j : Nat} (hj : j < n) :
    (copyCells n src dst s).listed (dst j) = some (busRead s (src + BitVec.ofNat 16 j)) := by
  induction n generalizing src dst s j with
  | zero => exact absurd hj (Nat.not_lt_zero j)
  | succ n ih =>
    rw [copyCells]
    cases j with
    | zero =>
      have hlater : ∀ i, i < n → dst 0 ≠ dst (i + 1) := fun i hi =>
        h.distinct 0 (i + 1) (Nat.succ_pos i) (Nat.succ_lt_succ hi)
      rw [listed_copyCells_of_ne n (src + 1) _ hlater, listed_putCell, if_pos rfl]
      exact congrArg (fun a => some (busRead s a)) (BitVec.add_zero src).symm
    | succ j =>
      have hread := busRead_putCell_of_place_ne (h.plain 0 (Nat.succ_pos n)) (h.source 0 (j + 1) (Nat.succ_pos j) hj)
        (busRead s src)
      rw [ih (h.tail _) (Nat.lt_of_succ_lt_succ hj), add_ofNat_succ, hread]

/-! ## The copy to OAM (20_memory.md R130) -/

theorem copyToOam_eq_copyCells (n i : Nat) (src : Word) (s : State) :
    copyToOam n i src s = copyCells n src (fun j => (.oam, i + j)) s := by
  induction n generalizing i src s with
  | zero => rfl
  | succ n ih =>
    rw [copyToOam, ih, copyCells]
    simp only [Nat.add_right_comm i, ← Nat.add_assoc]
    rfl

/-- The register and OAM are all that a write to DMA changes. -/
theorem oamDma_eq (v : Byte) (s : State) : oamDma v s = { s with bus.dmaReg := v, ram.oam := (oamDma v s).ram.oam } := by
  rw [oamDma, copyToOam_eq]

theorem oamDma_eq_copyCells (v : Byte) (s : State) :
    oamDma v s = copyCells 160 (word v 0x00) (fun k => (.oam, k)) { s with bus.dmaReg := v } := by
  rw [oamDma, copyToOam_eq_copyCells]
  simp only [Nat.zero_add]

/-- The address of the k-th byte of the page that a write to DMA names. -/
theorem pageAddr_toNat (v : Byte) {k : Nat} (hk : k < 160) :
    (word v 0x00 + BitVec.ofNat 16 k).toNat = 256 * v.toNat + k := by
  have hv := v.isLt
  have h0 : (0x00 : Byte).toNat = 0 := rfl
  rw [BitVec.toNat_add, word_toNat, BitVec.toNat_ofNat, h0]
  omega

theorem pageAddr_eq (v : Byte) {k : Nat} (hk : k < 160) :
    word v 0x00 + BitVec.ofNat 16 k = BitVec.ofNat 16 (256 * v.toNat + k) := by
  have hv := v.isLt
  apply BitVec.eq_of_toNat_eq
  rw [pageAddr_toNat v hk, BitVec.toNat_ofNat]
  omega

/-- A cell of OAM or of video RAM is behind an address of that region only. -/
theorem regionOf_of_place {s : State} {a : Word} {c : Store × Nat} (h : s.place a = some c) :
    (c.1 = .oam → regionOf a = .oam) ∧ (c.1 = .vram → regionOf a = .vram) := by
  unfold State.place at h
  repeat' split at h
  all_goals cases h
  all_goals simp [*]

theorem place_of_oam {a : Word} (hr : regionOf a = .oam) (s : State) : s.place a = some (.oam, a.toNat - 0xFE00) := by
  rw [State.place, hr]

theorem toNat_of_place_oam {s : State} {a : Word} {k : Nat} (h : s.place a = some (.oam, k)) : a.toNat = 0xFE00 + k := by
  have hr := (regionOf_of_place h).1 rfl
  obtain ⟨hlo, -⟩ := (regionOf_iff a .oam).1 hr
  have hk : a.toNat - 0xFE00 = k := by simpa [place_of_oam hr] using h
  simp only [regionRange] at hlo
  omega

/-- The page of OAM itself is the only one that meets OAM, and there each byte is copied to its own place. -/
theorem oamDma_keepsSource (v : Byte) (s : State) : CopyKeepsSource 160 (word v 0x00) (fun k => (.oam, k)) s where
  plain _ _ := by simp [InWindow]
  distinct i j hij _ := by
    simp only [ne_eq, Prod.mk.injEq, true_and]
    omega
  source i j hij hj h := by
    have ha := toNat_of_place_oam h
    rw [pageAddr_toNat v hj] at ha
    omega

theorem place_oamAddr {k : Nat} (hk : k < 160) (s : State) : s.place (BitVec.ofNat 16 (0xFE00 + k)) = some (.oam, k) := by
  have ha : (BitVec.ofNat 16 (0xFE00 + k)).toNat = 0xFE00 + k := by
    rw [BitVec.toNat_ofNat]
    omega
  have hr : regionOf (BitVec.ofNat 16 (0xFE00 + k)) = .oam := by
    rw [regionOf_iff, ha]
    simp only [regionRange]
    omega
  rw [State.place, hr, ha]
  simp only [Nat.add_sub_cancel_left]

/-- Settles O46: the copy puts cells of OAM only, and reads each source byte before it writes there. -/
theorem objectAttributeCopy : Obligations.ObjectAttributeCopy := by
  intro s v
  have hw : busWrite 0xFF46 v s = oamDma v s := busWrite_ioAddr s v 0x46
  dsimp only
  rw [hw]
  refine ⟨oamDma_eq v s, fun k hk => ?_⟩
  rw [oamDma_eq_copyCells, ← pageAddr_eq v hk]
  exact busRead_of_listed (place_oamAddr hk _) (listed_copyCells (oamDma_keepsSource v _) hk)

/-! ## The VRAM transfer (R93, R135) -/

/-- The cell that the j-th byte of a copy to `dst` goes to: the destination wraps inside the mapped bank. -/
def vramCell (b : BusRegs) (dst : Word) (j : Nat) : Store × Nat := (.vram, b.vramKey ((dst.toNat + j) % 0x2000))

theorem vramCell_zero (b : BusRegs) (dst : Word) : vramCell b dst 0 = (.vram, b.vramKey ((dst - 0x8000).toNat % 0x2000)) := by
  have h : (dst - 0x8000).toNat % 0x2000 = (dst.toNat + 0) % 0x2000 := by bv_omega
  rw [vramCell, h]

theorem vramCell_succ (b : BusRegs) (dst : Word) (j : Nat) : vramCell b dst (j + 1) = vramCell b (dst + 1) j := by
  have h : (dst.toNat + (j + 1)) % 0x2000 = ((dst + 1).toNat + j) % 0x2000 := by bv_omega
  rw [vramCell, vramCell, h]

theorem copyToVram_eq_copyCells (n : Nat) (src dst : Word) (s : State) :
    copyToVram n src dst s = copyCells n src (vramCell s.bus dst) s := by
  induction n generalizing src dst s with
  | zero => rfl
  | succ n ih =>
    rw [copyToVram, ih, copyCells, vramCell_zero]
    simp only [vramCell_succ]
    rfl

theorem copyBlock_eq (src dst : Word) (s : State) :
    copyBlock src dst s = { s with ram.vram := (copyBlock src dst s).ram.vram } := by
  rw [copyBlock, copyToVram_eq]

/-- A source outside video RAM is not touched, and sixteen bytes do not meet in the bank. -/
theorem copyBlock_keepsSource {src : Word} (dst : Word) {s : State}
    (h : ∀ j, j < 16 → regionOf (src + BitVec.ofNat 16 j) ≠ .vram) :
    CopyKeepsSource 16 src (vramCell s.bus dst) s where
  plain _ _ := by simp [vramCell, InWindow]
  distinct i j hij hj := by
    simp only [vramCell, BusRegs.vramKey, ne_eq, Prod.mk.injEq, true_and]
    omega
  source _ j _ hj hp := h j hj ((regionOf_of_place hp).2 rfl)

theorem listed_vram (s : State) (k : Nat) : s.listed (.vram, k) = s.ram.vram.get? k := rfl

/-- Settles O47: the destinations are distinct cells of video RAM, which the sources do not meet. -/
theorem vramBlockCopy : Obligations.VramBlockCopy := by
  intro s src dst hsrc
  dsimp only
  refine ⟨copyBlock_eq src dst s, fun j hj => ?_, fun k hk => ?_⟩
  · rw [← listed_vram, copyBlock, copyToVram_eq_copyCells]
    exact listed_copyCells (copyBlock_keepsSource dst hsrc) hj
  · rw [← listed_vram, ← listed_vram, copyBlock, copyToVram_eq_copyCells]
    exact listed_copyCells_of_ne 16 src s fun j hj e => hk j hj (congrArg Prod.snd e)

/-! ## The transfer's registers (R136 to R139) -/

@[simp] theorem copyBlock_hdma (src dst : Word) (s : State) : (copyBlock src dst s).hdma = s.hdma := by rw [copyBlock_eq]

@[simp] theorem copyBlocks_hdma (n : Nat) (src dst : Word) (s : State) : (copyBlocks n src dst s).hdma = s.hdma := by
  induction n generalizing src dst s with
  | zero => rfl
  | succ n ih => rw [copyBlocks, ih, copyBlock_hdma]

section
variable {s : State} {v : Byte}

/-- Bit 7 clear cancels an armed transfer (R136). -/
theorem writeHdma5_cancel (h : s.hdma.active = true) (hv : v.getLsbD 7 = false) :
    writeHdma5 v s = { s with hdma.active := false } := by
  rw [writeHdma5, h, hv]
  rfl

/-- Bit 7 set arms a transfer (R138). -/
theorem writeHdma5_arm (hv : v.getLsbD 7 = true) : writeHdma5 v s = { s with hdma := s.hdma.arm v } := by
  simp only [writeHdma5, hv, Bool.not_true, Bool.and_false, Bool.false_eq_true, if_false]

/-- Bit 7 clear with no transfer armed copies all blocks at once (R137). -/
theorem writeHdma5_general (h : s.hdma.active = false) (hv : v.getLsbD 7 = false) :
    writeHdma5 v s =
      { copyBlocks (v.toNat % 128 + 1) s.hdma.vtSrc s.hdma.vtDst s with
        hdma := { s.hdma with active := false, remaining := 0x7F } } := by
  have hw : writeHdma5 v s = hdmaGeneral v s := by
    simp only [writeHdma5, h, hv, Bool.not_false, Bool.and_true, Bool.false_eq_true, if_false, if_true]
  rw [hw, hdmaGeneral]
  simp only [copyBlocks_hdma]

end

/-- The cursors and the count after a block (R139). -/
theorem blockDone_eq {d : Hdma} (h : d.active = true) :
    d.blockDone =
      { d with
        src := d.src + 16, dst := d.dst + 16, active := decide (d.remaining ≠ 0)
        remaining := if d.remaining = 0 then 0x7F else d.remaining - 1 } := by
  by_cases h0 : d.remaining = 0
  · simp [Hdma.blockDone, h0]
  · simp only [Hdma.blockDone, h0, h, if_false, ne_eq, not_false_eq_true, decide_true]

theorem hblankBlock_armed {s : State} (h : s.hdma.active = true) :
    hblankBlock s = { copyBlock s.hdma.src s.hdma.dst s with hdma := s.hdma.blockDone } := by
  simp [hblankBlock, h]

/-- Settles O48: HDMA5 by its three cases, and the block of a horizontal blank with a transfer armed and without. -/
theorem vramTransferRegisters : Obligations.VramTransferRegisters := by
  intro s v
  dsimp only
  refine ⟨fun hc => ?_, hblankBlock_idle, fun ha => ?_⟩
  · have h5 : busWrite 0xFF55 v s = writeHdma5 v s := busWrite_color hc v 0x55
    rw [h5]
    exact ⟨busWrite_color hc v 0x51, busWrite_color hc v 0x52, busWrite_color hc v 0x53, busWrite_color hc v 0x54,
      writeHdma5_cancel, writeHdma5_arm, writeHdma5_general⟩
  · rw [hblankBlock_armed ha, blockDone_eq ha]

end Sys2Proof.Machine

/-! PROOF. The I/O window: the palette registers, the latched status line, and the offsets without a register. -/

namespace Sys2Proof.Machine

open Sys2Proof.Claims

/-! ## The color palettes (20_memory.md R141 to R143) -/

/-- The index moves by one modulo 64 if it is asked to. -/
theorem afterData_eq (p : PaletteIndex) : p.afterData = { p with idx := if p.autoinc then p.idx + 1 else p.idx } := by
  rw [PaletteIndex.afterData]
  split <;> rfl

section
variable {s : State} (hc : s.cfg.mode = .color) (v : Byte)
include hc

theorem busWrite_bcpd : busWrite 0xFF69 v s =
    { s with ram.bgpal := s.ram.bgpal.set s.bus.bcps.idx.toNat v, bus.bcps := s.bus.bcps.afterData } :=
  busWrite_color hc v 0x69

theorem busWrite_ocpd : busWrite 0xFF6B v s =
    { s with ram.obpal := s.ram.obpal.set s.bus.ocps.idx.toNat v, bus.ocps := s.bus.ocps.afterData } :=
  busWrite_color hc v 0x6B

theorem busRead_bcpd {m : Memory} {k : Nat} (hm : s.ram.bgpal = m.set k v) (hk : s.bus.bcps.idx.toNat = k) :
    busRead s 0xFF69 = v := by
  have h : busRead s 0xFF69 = cell .bgpal s.ram.bgpal s.bus.bcps.idx.toNat := busRead_color hc 0x69
  rw [h, hm, hk, cell_set_self]

theorem busRead_ocpd {m : Memory} {k : Nat} (hm : s.ram.obpal = m.set k v) (hk : s.bus.ocps.idx.toNat = k) :
    busRead s 0xFF6B = v := by
  have h : busRead s 0xFF6B = cell .obpal s.ram.obpal s.bus.ocps.idx.toNat := busRead_color hc 0x6B
  rw [h, hm, hk, cell_set_self]

end

/-- Settles O49: a data write sets one cell of its palette, which the data register then reads under the same index. -/
theorem paletteRegisters : Obligations.PaletteRegisters := by
  intro s v hc
  refine ⟨busWrite_color hc v 0x68, busWrite_color hc v 0x6A, busRead_color hc 0x68, busRead_color hc 0x6A,
    ?background, ?object⟩
  case background =>
    rw [busWrite_bcpd hc]
    refine ⟨afterData_eq _, ?_, rfl, fun k hk => Memory.get?_set_of_ne _ v hk⟩
    exact busRead_bcpd (by exact hc) v rfl rfl
  case object =>
    rw [busWrite_ocpd hc]
    refine ⟨afterData_eq _, ?_, rfl, fun k hk => Memory.get?_set_of_ne _ v hk⟩
    exact busRead_ocpd (by exact hc) v rfl rfl

/-! ## The latched status line (R145, R146) -/

/-- The condition of STAT in words. -/
theorem statCond_iff (p : Ppu) : p.statCond = true ↔
    (p.statEn.getLsbD 3 = true ∧ BitVec.ofNat 8 p.ly = p.lyc) ∨ (p.statEn.getLsbD 2 = true ∧ p.mode = .oamScan) ∨
      (p.statEn.getLsbD 1 = true ∧ p.mode = .vblank) ∨ (p.statEn.getLsbD 0 = true ∧ p.mode = .hblank) := by
  simp [Ppu.statCond, Ppu.coincidence, Ppu.lyByte, or_assoc]

section
variable {s : State}

theorem statUpdate_of_low (h : s.ppu.statCond = false) : statUpdate s = { s with bus.statLine := false } := by
  simp only [statUpdate, h, Bool.and_false]
  rfl

theorem statUpdate_of_high (h : s.ppu.statCond = true) (hl : s.bus.statLine = true) : statUpdate s = s := by
  simp only [statUpdate, h.trans hl.symm, Bool.not_and_self]
  rfl

theorem statUpdate_of_rise (h : s.ppu.statCond = true) (hl : s.bus.statLine = false) :
    statUpdate s = { s with bus.statLine := true, irq.ifr := s.irq.ifr ||| 0b00010 } := by
  simp only [statUpdate, h, hl]
  rfl

end

/-- Settles O50: the line by its three cases, and the three writes. -/
theorem statusLineRequestsOnItsRise : Obligations.StatusLineRequestsOnItsRise := by
  intro s v
  dsimp only
  rw [← statCond_iff, Bool.not_eq_true]
  exact ⟨statUpdate_of_low, statUpdate_of_high, statUpdate_of_rise, busWrite_ioAddr s v 0x41, busWrite_ioAddr s v 0x45,
    busWrite_ioAddr s v 0x44⟩

/-! ## Offsets without a register (R99, R118, R119) -/

/-- An offset of the unmapped ones or of those marked C is no register of another unit. -/
theorem mainRegRead_eq_none {off : Nat} (h : unmapped off ∨ colorOnly off) (s : State) : mainRegRead s off = none := by
  unfold mainRegRead
  split
  case h_10 => rfl
  all_goals simp [unmapped, colorOnly] at h

theorem soundRead_eq_none {off : Nat} (h : unmapped off ∨ colorOnly off) (u : Sound) : u.read off = none := by
  unfold Sound.read
  split
  case h_22 => rfl
  all_goals simp [unmapped, colorOnly] at h

theorem ppuRead_eq_none {off : Nat} (h : unmapped off ∨ colorOnly off) (p : Ppu) : p.read off = none := by
  unfold Ppu.read
  split
  case h_12 => rfl
  all_goals simp [unmapped, colorOnly] at h

theorem waveRead_eq_none {off : Nat} (h : unmapped off ∨ colorOnly off) (s : State) : waveRead s off = none := by
  refine if_neg ?_
  unfold unmapped colorOnly at h
  omega

theorem colorRead_eq_none {off : Nat} (h : unmapped off) (s : State) : colorRead s off = none := by
  cases hm : s.cfg.mode with
  | mono => rw [colorRead, hm]
  | color =>
    simp only [colorRead, hm]
    unfold colorRegRead
    split
    case h_9 => rfl
    all_goals simp [unmapped] at h

theorem colorWrite_unmapped {off : Nat} (h : unmapped off) (v : Byte) (s : State) : colorWrite off v s = s := by
  cases hm : s.cfg.mode with
  | mono => rw [colorWrite, hm]
  | color =>
    simp only [colorWrite, hm]
    unfold colorRegWrite
    split
    case h_13 => rfl
    all_goals simp [unmapped] at h

/-- The two offsets among the sound registers that name none. -/
theorem soundWrite_unmapped {off : Nat} (h : off = 0x15 ∨ off = 0x1F) (v : Byte) (u : Sound) : u.write off v = u := by
  obtain rfl | rfl := h
  · simp [Sound.write, Sound.writeOn]
  · simp [Sound.write, Sound.writeOn]

section
variable {off : Nat} (h : unmapped off ∨ colorOnly off)
include h

theorem noRegister_lt : off < 0x80 := by
  unfold unmapped colorOnly at h
  omega

theorem busRead_noRegister (s : State) : busRead s (ioAddr off) = (colorRead s off).getD s.cfg.fill := by
  rw [busRead_ioAddr s off (noRegister_lt h), ioRead, mainRegRead_eq_none h, soundRead_eq_none h, ppuRead_eq_none h,
    waveRead_eq_none h]
  rfl

theorem ioWrite_noRegister (v : Byte) (s : State) : ioWrite off v s = colorWrite off v s := by
  by_cases hs : off = 0x15 ∨ off = 0x1F
  · have hu : unmapped off := by
      unfold unmapped
      omega
    unfold ioWrite
    rw [colorWrite_unmapped hu, if_pos (by omega), soundWrite_unmapped hs]
  · unfold unmapped colorOnly at h
    unfold ioWrite
    repeat rw [if_neg (by omega)]
    split
    case h_9 => rfl
    all_goals omega

theorem busWrite_noRegister (v : Byte) (s : State) : busWrite (ioAddr off) v s = colorWrite off v s := by
  rw [busWrite_ioAddr s v off (noRegister_lt h), ioWrite_noRegister h]

end

/-- Settles O42: no unit answers the offset, or only the registers marked C, which Mono lacks. -/
theorem unmappedAddressesReadFill : Obligations.UnmappedAddressesReadFill := by
  intro s v
  refine ⟨fun a hr => ?unusable, fun off h => ?unmapped, fun hm off h => ?mono⟩
  case unusable => exact ⟨by rw [busRead, hr], by rw [busWrite, hr]⟩
  case unmapped =>
    rw [busRead_noRegister (.inl h), colorRead_eq_none h, busWrite_noRegister (.inl h), colorWrite_unmapped h]
    exact ⟨rfl, rfl⟩
  case mono =>
    rw [busRead_noRegister (.inr h), colorRead, busWrite_noRegister (.inr h), colorWrite, hm]
    exact ⟨rfl, rfl⟩

end Sys2Proof.Machine

/-! PROOF. The bank controllers: what a write stores, the bank each window shows, and external RAM. -/

namespace Sys2Proof.Machine

/-! ## The registers (62_boundary_units.md R562, R563, R565, R566) -/

section
variable {c : Cart} {a : Word} (v : Byte)

/-- A write below 0x8000 writes the controller's registers. -/
theorem Cart.write_rom (ha : a.toNat < 0x8000) : c.write a v = c.writeReg a v := if_pos ha

theorem Cart.writeReg_romOnly (hk : c.kind = .romOnly) : c.writeReg a v = c := by
  simp only [Cart.writeReg, hk]

/-- Every controller but ROM-only has the enable register in the first range. -/
theorem Cart.writeReg_enable (hk : c.kind ≠ .romOnly) (hq : a.toNat / 0x2000 = 0) :
    c.writeReg a v = { c with ramEnable := decide (v.toNat % 16 = 0xA) } := by
  simp only [Cart.writeReg, hq]

theorem Cart.writeReg_controller1 (hk : c.kind = .controller1) :
    (a.toNat / 0x2000 = 1 → c.writeReg a v = { c with bankLo := v.extractLsb' 0 5 }) ∧
    (a.toNat / 0x2000 = 2 → c.writeReg a v = { c with bankHi := v.extractLsb' 0 2 }) ∧
    (a.toNat / 0x2000 = 3 → c.writeReg a v = { c with bankMode := v.getLsbD 0 }) := by
  refine ⟨fun hq => ?_, fun hq => ?_, fun hq => ?_⟩
  all_goals simp only [Cart.writeReg, hk, hq]

theorem Cart.writeReg_controller3 (hk : c.kind = .controller3) :
    (a.toNat / 0x2000 = 1 → c.writeReg a v = { c with romBank3 := v.extractLsb' 0 7 }) ∧
    (a.toNat / 0x2000 = 2 → c.writeReg a v = { c with sel := v }) ∧
    (a.toNat / 0x2000 = 3 → c.writeReg a v = c) := by
  refine ⟨fun hq => ?_, fun hq => ?_, fun hq => ?_⟩
  all_goals simp only [Cart.writeReg, hk, hq]

theorem Cart.writeReg_controller5 (hk : c.kind = .controller5) :
    (a.toNat / 0x2000 = 1 → c.writeReg a v =
      { c with romBank5 :=
          if a.toNat < 0x3000 then c.romBank5.extractLsb' 8 1 ++ v else v.extractLsb' 0 1 ++ c.romBank5.extractLsb' 0 8 }) ∧
    (a.toNat / 0x2000 = 2 → c.writeReg a v = { c with ramBank5 := v.extractLsb' 0 4 }) ∧
    (a.toNat / 0x2000 = 3 → c.writeReg a v = c) := by
  refine ⟨fun hq => ?_, fun hq => ?_, fun hq => ?_⟩
  · simp only [Cart.writeReg, hk, hq]
    split <;> rfl
  · simp only [Cart.writeReg, hk, hq]
  · simp only [Cart.writeReg, hk, hq]

end

/-- The nine bits of Controller-5's ROM bank, the low eight or the ninth replaced. -/
theorem romBank5_toNat (r : BitVec 9) (v : Byte) (low : Prop) [Decidable low] :
    ((if low then r.extractLsb' 8 1 ++ v else v.extractLsb' 0 1 ++ r.extractLsb' 0 8 : BitVec 9)).toNat =
      if low then r.toNat / 256 * 256 + v.toNat else v.toNat % 2 * 256 + r.toNat % 256 := by
  have hr := r.isLt
  split
  · rw [BitVec.toNat_append, ← Nat.shiftLeft_add_eq_or_of_lt v.isLt, Nat.shiftLeft_eq, BitVec.extractLsb'_toNat,
      Nat.shiftRight_eq_div_pow]
    omega
  · rw [BitVec.toNat_append, ← Nat.shiftLeft_add_eq_or_of_lt (r.extractLsb' 0 8).isLt, Nat.shiftLeft_eq,
      BitVec.extractLsb'_toNat, BitVec.extractLsb'_toNat]
    omega

/-! ## The banks in the ROM windows -/

/-- Controller-1's two registers as one number (R563). -/
theorem bankHi_append_toNat (h : BitVec 2) (l : BitVec 5) : (h ++ l).toNat = 32 * h.toNat + l.toNat := by
  rw [BitVec.toNat_append, ← Nat.shiftLeft_add_eq_or_of_lt l.isLt, Nat.shiftLeft_eq]
  omega

theorem Cart.lowBank_eq (c : Cart) :
    c.lowBank = if c.kind = .controller1 ∧ c.bankMode = true then 32 * c.bankHi.toNat % c.romBanks else 0 := by
  cases hk : c.kind <;> simp [Cart.lowBank, hk, bankHi_append_toNat]

/-- Controller-1's lower register, where 0 counts as 1. -/
theorem bankLo_toNat (l : BitVec 5) : (if l = 0 then 1 else l).toNat = if l = 0 then 1 else l.toNat := by
  split <;> rfl

theorem Cart.highBank_eq (c : Cart) :
    c.highBank =
      match c.kind with
      | .romOnly => 1
      | .controller1 => (32 * c.bankHi.toNat + if c.bankLo = 0 then 1 else c.bankLo.toNat) % c.romBanks
      | .controller3 => (if c.romBank3 = 0 then 1 else c.romBank3.toNat) % c.romBanks
      | .controller5 => c.romBank5.toNat % c.romBanks := by
  cases hk : c.kind <;> simp only [Cart.highBank, hk, bankHi_append_toNat, bankLo_toNat]

theorem Cart.lowBank_lt {c : Cart} (h : 2 ≤ c.romBanks) : c.lowBank < c.romBanks := by
  have hmod (n : Nat) : n % c.romBanks < c.romBanks := Nat.mod_lt n (by omega)
  rw [c.lowBank_eq]
  split
  · exact hmod _
  · omega

theorem Cart.highBank_lt {c : Cart} (h : 2 ≤ c.romBanks) : c.highBank < c.romBanks := by
  have hmod (n : Nat) : n % c.romBanks < c.romBanks := Nat.mod_lt n (by omega)
  rw [c.highBank_eq]
  split
  · omega
  · exact hmod _
  · exact hmod _
  · exact hmod _

/-- A byte of a bank that the image has is inside the image. -/
theorem bankKey_lt {b n off : Nat} (hb : b < n) (hoff : off < 0x4000) : b * 0x4000 + off < n * 0x4000 := by omega

theorem Cart.romKey_eq (c : Cart) {a : Word} (ha : a.toNat < 0x8000) :
    c.romKey a = (if a.toNat < 0x4000 then c.lowBank else c.highBank) * 0x4000 + a.toNat % 0x4000 := by
  unfold Cart.romKey romBankSize
  split <;> omega

theorem Cart.romKey_lt {c : Cart} (h : 2 ≤ c.romBanks) {a : Word} (ha : a.toNat < 0x8000) :
    c.romKey a < c.romBanks * 0x4000 := by
  have hoff : a.toNat % 0x4000 < 0x4000 := Nat.mod_lt _ (by decide)
  rw [c.romKey_eq ha]
  split
  · exact bankKey_lt (Cart.lowBank_lt h) hoff
  · exact bankKey_lt (Cart.highBank_lt h) hoff

/-! ## External RAM -/

section
variable {c : Cart}

/-- Only a Controller-3 with a clock and RAM enabled reaches the clock, and only by five select codes. -/
theorem Cart.clockReg_eq_none
    (h : c.kind ≠ .controller3 ∨ c.hasClock = false ∨ c.ramEnable = false ∨ c.sel.toNat ≤ 7 ∨ 0x0D ≤ c.sel.toNat) :
    c.clockReg = none := by
  unfold Cart.clockReg
  split
  · next hon =>
    obtain ⟨hk, hclock, hen⟩ := hon
    have hsel : c.sel.toNat ≤ 7 ∨ 0x0D ≤ c.sel.toNat := by simpa [hk, hclock, hen] using h
    split
    case h_6 => rfl
    all_goals omega
  · rfl

theorem Cart.ramBank_of_no_ram (h : c.ramBanks = 0) : c.ramBank = none := if_pos h

theorem Cart.ramBank_disabled (hk : c.kind ≠ .romOnly) (he : c.ramEnable = false) : c.ramBank = none := by
  unfold Cart.ramBank
  split
  · rfl
  · cases h : c.kind <;> simp [he, h] at hk ⊢

/-- A select code above 7 names no RAM bank. -/
theorem Cart.ramBank_clockCode (hk : c.kind = .controller3) (hs : 8 ≤ c.sel.toNat) : c.ramBank = none := by
  unfold Cart.ramBank
  split
  · rfl
  · have hs' : ¬ c.sel.toNat ≤ 7 := by omega
    simp [hk, hs']

section
variable (hb : 0 < c.ramBanks)
include hb

theorem Cart.ramBank_romOnly (hk : c.kind = .romOnly) : c.ramBank = some (0 % c.ramBanks) := by
  simp [Cart.ramBank, hk, hb.ne']

theorem Cart.ramBank_controller1 (hk : c.kind = .controller1) (he : c.ramEnable = true) :
    c.ramBank = some ((if c.bankMode then c.bankHi.toNat else 0) % c.ramBanks) := by
  simp [Cart.ramBank, hk, he, hb.ne']

theorem Cart.ramBank_controller3 (hk : c.kind = .controller3) (he : c.ramEnable = true) (hs : c.sel.toNat ≤ 7) :
    c.ramBank = some (c.sel.toNat % c.ramBanks) := by
  simp [Cart.ramBank, hk, he, hs, hb.ne']

theorem Cart.ramBank_controller5 (hk : c.kind = .controller5) (he : c.ramEnable = true) :
    c.ramBank = some (c.ramBank5.toNat % c.ramBanks) := by
  simp [Cart.ramBank, hk, he, hb.ne']

end

variable {a : Word} (ha : 0xA000 ≤ a.toNat) (fill v : Byte)
include ha

/-- Absent RAM reads the fill and ignores writes. -/
theorem Cart.absent (hr : c.clockReg = none) (hb : c.ramBank = none) : c.read fill a = fill ∧ c.write a v = c := by
  have h8 : 0x8000 ≤ a.toNat := by omega
  exact ⟨Cart.read_of_absent h8 hr hb fill, Cart.write_of_absent h8 hr hb v⟩

/-- RAM shows the selected bank modulo the bank count. -/
theorem Cart.shows_bank {b : Nat} (hpos : 0 < c.ramBanks) (hr : c.clockReg = none) (hb : c.ramBank = some (b % c.ramBanks)) :
    b % c.ramBanks < c.ramBanks ∧
    c.read fill a = cell .xram c.xram (b % c.ramBanks * 0x2000 + (a.toNat - 0xA000)) ∧
    c.write a v = { c with xram := c.xram.set (b % c.ramBanks * 0x2000 + (a.toNat - 0xA000)) v } := by
  have h8 : 0x8000 ≤ a.toNat := by omega
  exact ⟨Nat.mod_lt b hpos, Cart.read_of_ramBank h8 hr hb fill, Cart.write_of_ramBank h8 hr hb v⟩

end

/-- Settles O57: the registers by controller, the two ROM banks, and external RAM by what reaches it. -/
theorem banksStayInTheImage : Obligations.BanksStayInTheImage := by
  refine ⟨fun s a v hr => ?port, fun c a v ha => ?registers, fun c fill a hbanks ha => ?windows, fun c fill v a ha _ => ?ram⟩
  case port =>
    obtain hr | hr := hr
    · exact ⟨by rw [busRead, hr], by rw [busWrite, hr]⟩
    · exact ⟨by rw [busRead, hr], by rw [busWrite, hr]⟩
  case registers =>
    dsimp only
    rw [Cart.write_rom v ha]
    refine ⟨Cart.writeReg_romOnly v, Cart.writeReg_enable v, Cart.writeReg_controller1 v, Cart.writeReg_controller3 v,
      fun hk => ?_⟩
    obtain ⟨h1, h2, h3⟩ := Cart.writeReg_controller5 (a := a) v hk
    refine ⟨fun hq => ?_, h2, h3⟩
    rw [h1 hq]
    exact ⟨rfl, romBank5_toNat c.romBank5 v _⟩
  case windows =>
    have h : c.read fill a = cell .rom c.rom (c.romKey a) ∧ c.romKey a < c.romBanks * 0x4000 :=
      ⟨if_pos ha, Cart.romKey_lt hbanks ha⟩
    rw [c.romKey_eq ha, c.lowBank_eq, c.highBank_eq] at h
    exact h
  case ram =>
    dsimp only
    refine ⟨fun hk hb => ?romOnly, fun hk he hb => ?controller1, fun hk he hb hs => ?controller3, fun hk he hb => ?controller5,
      fun hk he => ?disabled, fun hb hs => ?noRam, fun hk hs hc => ?noName⟩
    case romOnly =>
      exact Cart.shows_bank ha fill v hb (Cart.clockReg_eq_none (.inl (by simp [hk]))) (Cart.ramBank_romOnly hb hk)
    case controller1 =>
      exact Cart.shows_bank ha fill v hb (Cart.clockReg_eq_none (.inl (by simp [hk]))) (Cart.ramBank_controller1 hb hk he)
    case controller3 =>
      exact Cart.shows_bank ha fill v hb (Cart.clockReg_eq_none (by simp [hs])) (Cart.ramBank_controller3 hb hk he hs)
    case controller5 =>
      exact Cart.shows_bank ha fill v hb (Cart.clockReg_eq_none (.inl (by simp [hk]))) (Cart.ramBank_controller5 hb hk he)
    case disabled => exact Cart.absent ha fill v (Cart.clockReg_eq_none (by simp [he])) (Cart.ramBank_disabled hk he)
    case noRam =>
      have hr : c.clockReg = none := Cart.clockReg_eq_none (hs.imp_right fun h => .inr (.inr (.inl h)))
      exact Cart.absent ha fill v hr (Cart.ramBank_of_no_ram hb)
    case noName =>
      have hr : c.clockReg = none := Cart.clockReg_eq_none (.inr (hc.imp_right fun h => .inr (.inr h)))
      exact Cart.absent ha fill v hr (Cart.ramBank_clockCode hk hs)

end Sys2Proof.Machine

/-! PROOF. The decoder and the encoder, row by row of the opcode table: the encoder writes the bytes that the decoder read, and
the fetch passes exactly these bytes. -/

namespace Sys2Proof

/-! ## The opcode by its fields (30_encoding.md R172) -/

/-- The opcode of the fields x, y, z. -/
def opcode (x y z : Nat) : Byte := BitVec.ofNat 8 (64 * x + 8 * y + z)

theorem exists_fields (op : Byte) : ∃ x < 4, ∃ y < 8, ∃ z < 8, op = opcode x y z := by
  refine ⟨op.toNat / 64, by omega, op.toNat / 8 % 8, by omega, op.toNat % 8, by omega, ?_⟩
  apply BitVec.eq_of_toNat_eq
  simp only [opcode, BitVec.toNat_ofNat]
  omega

/-! ## The bytes of a row -/

/-- The decoder can answer `i`, and `bs` are its bytes. -/
def Instr.SpelledBy (i : Instr) (bs : List Byte) : Prop := i.wellFormed = true ∧ encode i = bs

/-- The instruction of a row, with the immediate it takes: `n` of 8 bits, or `nn` of 16. -/
def Row.instr (n : Byte) (nn : Word) : Row → Instr
  | .plain i => i
  | .imm8 k => k n
  | .imm16 k => k nn
  | .extended => extendedRow n

/-- The bytes of a row after its opcode, the low byte of a word first (R177). -/
def Row.operand (n : Byte) (nn : Word) : Row → List Byte
  | .plain _ => []
  | .imm8 _ => [n]
  | .imm16 _ => [lo nn, hi nn]
  | .extended => [n]

/-- What the decoder answers is an instruction of the row of the first byte, and what it takes is that row's operand. -/
theorem decode_cons_ok {op : Byte} {bs rest : List Byte} {i : Instr} (h : decode (op :: bs) = .ok (i, rest)) :
    ∃ n nn, i = (primaryRow op).instr n nn ∧ bs = (primaryRow op).operand n nn ++ rest := by
  simp only [decode] at h
  split at h <;> cases h
  case h_1 hrow => exact ⟨0, 0, by rw [hrow]; exact ⟨rfl, rfl⟩⟩
  case h_2 n hrow => exact ⟨n, 0, by rw [hrow]; exact ⟨rfl, rfl⟩⟩
  case h_3 l u hrow => exact ⟨0, word u l, by rw [hrow]; simp [Row.instr, Row.operand]⟩
  case h_4 op2 hrow => exact ⟨op2, 0, by rw [hrow]; exact ⟨rfl, rfl⟩⟩

/-- R180: an extended row is spelled by 0xCB and its opcode, whatever the opcode's fields. -/
theorem extendedRow_spelledBy (op : Byte) : (extendedRow op).SpelledBy [0xCB, op] := by
  obtain ⟨x, hx, y, hy, z, hz, rfl⟩ := exists_fields op
  interval_cases x <;> interval_cases y <;> interval_cases z <;> exact ⟨rfl, rfl⟩

/-- R178: a row is spelled by its opcode and its operand. 0xCB is the one row whose operand selects the instruction. -/
theorem primaryRow_spelledBy (op n : Byte) (nn : Word) :
    ((primaryRow op).instr n nn).SpelledBy (op :: (primaryRow op).operand n nn) := by
  obtain ⟨x, hx, y, hy, z, hz, rfl⟩ := exists_fields op
  interval_cases x <;> interval_cases y <;> interval_cases z
  any_goals exact ⟨rfl, rfl⟩
  exact extendedRow_spelledBy n

/-- What the decoder takes off a list is what the encoder writes of its answer (30_encoding.md R184). -/
theorem spelledBy_of_decode {bs rest : List Byte} {i : Instr} (h : decode bs = .ok (i, rest)) :
    i.wellFormed = true ∧ encode i ++ rest = bs := by
  cases bs with
  | nil => cases h
  | cons op bs =>
    obtain ⟨n, nn, rfl, rfl⟩ := decode_cons_ok h
    obtain ⟨hw, he⟩ := primaryRow_spelledBy op n nn
    exact ⟨hw, by rw [he]; rfl⟩

/-- Settles O2: the first byte of a well-formed instruction selects its row, and the bytes after it are the row's operand. -/
theorem decodeOfEncodeIsTheInstruction : Obligations.DecodeOfEncodeIsTheInstruction := decode_encode_append

/-- Settles O3: each row is spelled by its opcode and its operand, which is what the decoder has read. -/
theorem encodeOfDecodeIsTheBytes : Obligations.EncodeOfDecodeIsTheBytes := fun _ _ _ => spelledBy_of_decode

/-- Settles O1: the decoder, run on the words. -/
theorem decodesWordsOfTheSpec : Obligations.DecodesWordsOfTheSpec :=
  ⟨rfl, rfl, rfl, rfl, rfl, rfl, rfl, rfl, rfl, rfl, rfl⟩

end Sys2Proof

namespace Sys2Proof.Machine

/-! ## The fetch (60_exceptions.md R400, R402) -/

theorem fetchBytes_cpu (n : Nat) (s : State) :
    (fetchBytes n s).2.cpu = { s.cpu with pc := s.cpu.pc + BitVec.ofNat 16 n } := by
  induction n generalizing s with
  | zero => simp [fetchBytes]
  | succ n ih => simp only [fetchBytes, ih, fetch8_cpu, add_ofNat_succ]

theorem fetchBytes_cycles (n : Nat) (s : State) : (fetchBytes n s).2.cycles = s.cycles + n := by
  induction n generalizing s with
  | zero => rfl
  | succ n ih =>
    simp only [fetchBytes, ih, fetch8_cycles]
    omega

/-- The fetch reads as many bytes in a row as the instruction it answers has. -/
theorem fetchInstr_eq (s : State) :
    ∃ i, i.wellFormed = true ∧ fetchInstr s = (.ok i, (fetchBytes (encode i).length s).2) := by
  have hlen := fetchBytes_length (primaryRow (fetch8 s).1).more (fetch8 s).2
  obtain ⟨i, hi⟩ := decode_of_more hlen
  obtain ⟨hw, he⟩ := spelledBy_of_decode hi
  have hcount : (encode i).length = (primaryRow (fetch8 s).1).more + 1 := by
    rw [← List.append_nil (encode i), he, List.length_cons, hlen]
  refine ⟨i, hw, ?_⟩
  simp only [fetchInstr, hi, hcount]
  rfl

/-- Settles O6: the fetch reads the bytes of its instruction one after another. -/
theorem fetchPassesTheInstruction : Obligations.FetchPassesTheInstruction := fun s =>
  let ⟨i, hw, hf⟩ := fetchInstr_eq s
  ⟨i, _, hf, hw, fetchBytes_cpu _ s, fetchBytes_cycles _ s⟩

end Sys2Proof.Machine

/-! PROOF. The loads and stores (40_load8.md R200 to R218; 41_load16_stack.md R230 to R232): one equation per operation that gives
the state it leaves, and the instructions from the equations. -/

namespace Sys2Proof.Machine

/-! ## The high page (R211 to R214) -/

theorem highPage_eq (n : Byte) : highPage n = 0xFF00 + n.setWidth 16 := by
  apply BitVec.eq_of_toNat_eq
  simp only [highPage, word_toNat, BitVec.ofNat_eq_ofNat, BitVec.toNat_add, BitVec.toNat_setWidth, BitVec.toNat_ofNat]
  omega

/-! ## The operations -/

/-- A register that takes a byte from memory: one machine cycle, and the register. -/
theorem setReg_memRead (r : Reg8) (a : Word) (s : State) :
    setReg r (memRead a s).1 (memRead a s).2 = { cycle s with cpu := s.cpu.set r (busRead (cycle s) a) } := by
  rw [setReg, memRead_cpu]
  rfl

theorem loadA_eq (a : Word) (s : State) :
    loadA a s = { cycle s with cpu := s.cpu.set .a (busRead (cycle s) a) } := setReg_memRead .a a s

theorem loadOpd_atHL (r : Reg8) (s : State) :
    loadOpd (.reg r) .atHL s = { cycle s with cpu := s.cpu.set r (busRead (cycle s) s.cpu.hl) } :=
  setReg_memRead r s.cpu.hl s

/-- The read is at the old HL, and HL steps from the same value: writing A leaves it alone. -/
theorem loadAStep_eq (f : Word → Word) (s : State) :
    loadAStep f s =
      { cycle s with cpu := (s.cpu.set .a (busRead (cycle s) s.cpu.hl)).setPair .hl (f s.cpu.hl) } := by
  rw [loadAStep, loadA_eq]
  rfl

/-- The write is at the old HL, and HL steps from the same value: no bus write changes it. -/
theorem storeAStep_eq (f : Word → Word) (s : State) :
    storeAStep f s = setPair .hl (f s.cpu.hl) (busWrite s.cpu.hl s.cpu.a (cycle s)) := by
  have hl : (storeA s.cpu.hl s).cpu.hl = s.cpu.hl := by simp [storeA, memWrite, Cpu.hl]
  rw [storeAStep, stepHL, hl]
  rfl

/-! ## The instructions -/

/-- Settles O15: the access is at HL, and the two halves then step as the word. -/
theorem loadsAndStoresThatStepHL : Obligations.LoadsAndStoresThatStepHL := by
  intro s hl loaded t stored
  have hload (f : Word → Word) {x : Word} (hx : f hl = x) : Host.Outcome.next (loadAStep f s) = loaded x := by
    rw [loadAStep_eq, ← hx]
    rfl
  have hstore (f : Word → Word) {x : Word} (hx : f hl = x) : Host.Outcome.next (storeAStep f s) = stored x := by
    rw [storeAStep_eq, ← hx]
    rfl
  exact ⟨hload incHalves (incHalves_eq hl), hload decHalves (decHalves_eq hl), hstore incHalves (incHalves_eq hl),
    hstore decHalves (decHalves_eq hl)⟩

/-- Settles O13: each form reads one byte into one register. -/
theorem loadsFromMemory : Obligations.LoadsFromMemory := by
  intro s loaded
  have hA (a : Word) : Host.Outcome.next (loadA a s) = loaded .a a := by rw [loadA_eq]
  refine ⟨fun r => ?_, hA _, hA _, hA, ?_, fun n => ?_⟩
  · rw [exec_ldReg, loadOpd_atHL]
    rfl
  · rw [← highPage_eq]
    exact hA _
  · rw [← highPage_eq]
    exact hA _

/-- Settles O14: each form writes one byte after one machine cycle. -/
theorem storesToMemory : Obligations.StoresToMemory := by
  intro s stored
  have hA (a : Word) : Host.Outcome.next (storeA a s) = stored a s.cpu.a := rfl
  refine ⟨exec_ldMem s, exec_ldImmRow s .atHL, hA _, hA _, hA, ?_, fun n => ?_⟩
  · rw [← highPage_eq]
    exact hA _
  · rw [← highPage_eq]
    exact hA _

/-- Settles O16: a row of registers or pairs is that write alone; the two forms with SP are internal and memory cycles. -/
theorem loadsOfRegistersAndPairs : Obligations.LoadsOfRegistersAndPairs := fun s =>
  ⟨fun r r' => exec_ldReg s r (.reg r'), fun r => exec_ldImmRow s (.reg r), exec_ldPairRow s,
    congrArg Host.Outcome.next (internal_eq _), fun _ => rfl⟩

end Sys2Proof.Machine

/-! PROOF. The stack and the two sums with sp (41_load16_stack.md R233 to R236; 43_alu16.md R303): each operation as one equation,
and what a push to plain memory leaves for a pop. -/

namespace Sys2Proof.Machine

open Sys2Proof.Claims

/-! ## The sums with sp -/

/-- Adding a sign-extended byte is adding its signed value, modulo 2^16. -/
theorem add_sext16 (v : Word) (e : Byte) : v + sext16 e = BitVec.ofInt 16 ((v.toNat : Int) + e.toInt) := by
  rw [BitVec.ofInt_add, BitVec.ofInt_natCast, BitVec.ofNat_toNat, BitVec.setWidth_eq]
  rfl

theorem loadHLSP_eq (e : Byte) (s : State) :
    loadHLSP e s =
      { cycle s with cpu := { s.cpu.setPair .hl (s.cpu.sp + sext16 e) with flags := spFlags s.cpu.sp e } } := by
  simp only [loadHLSP, internal_eq, setFlags, setPair, cycle_cpu]

theorem addSP_eq (e : Byte) (s : State) :
    addSP e s =
      { cycle (cycle s) with cpu := { s.cpu.setPair .sp (s.cpu.sp + sext16 e) with flags := spFlags s.cpu.sp e } } := by
  simp only [addSP, internal_eq, setFlags, setPair, cycle_cpu]

/-- Settles O17: one sum and one set of flags, which go to HL or to sp. -/
theorem stackPointerPlusOffset : Obligations.StackPointerPlusOffset := by
  intro e s sum f
  have hsum : s.cpu.sp + sext16 e = sum := add_sext16 s.cpu.sp e
  have hflags : spFlags s.cpu.sp e = f := rfl
  refine ⟨congrArg Host.Outcome.next ?_, congrArg Host.Outcome.next ?_⟩
  · rw [loadHLSP_eq, hsum, hflags]
    rfl
  · rw [addSP_eq, hsum, hflags]
    rfl

/-! ## PUSH and POP as accesses -/

theorem popByte_eq (s : State) :
    popByte s = (busRead (cycle s) s.cpu.sp, { cycle s with cpu.sp := s.cpu.sp + 1 }) := by
  simp only [popByte, memRead, cycle_cpu]

theorem pop16_eq (s : State) : pop16 s = popped16 s := by
  simp only [pop16, popped16, popByte_eq, BitVec.add_assoc]
  rfl

theorem pushPair_eq (q : StackPair) (s : State) : pushPair q s = pushed16 (s.cpu.getStack q) (cycle s) := by
  rw [pushPair, internal_eq, cycle_cpu]
  rfl

theorem popPair_eq (q : StackPair) (s : State) :
    popPair q s = { (popped16 s).2 with cpu := (popped16 s).2.cpu.setStack q (popped16 s).1 } := by
  rw [popPair, pop16_eq]

/-- F as a number: Z N H C in the high four bits (10_state.md R34). -/
theorem Flags.toByte_eq (f : Flags) :
    f.toByte = BitVec.ofNat 8 (128 * f.z.toNat + 64 * f.n.toNat + 32 * f.h.toNat + 16 * f.c.toNat) := by
  obtain ⟨z, n, h, c⟩ := f
  cases z <;> cases n <;> cases h <;> cases c <;> rfl

/-- The flags of a popped word. -/
theorem Flags.ofByte_lo (v : Word) :
    Flags.ofByte (lo v) = { z := v.getLsbD 7, n := v.getLsbD 6, h := v.getLsbD 5, c := v.getLsbD 4 } := by
  simp [Flags.ofByte, lo]

/-- Settles O18: each form is the push or the pop of its pair; F goes out as a number and comes back bit by bit. -/
theorem pushAndPop : Obligations.PushAndPop := by
  intro s f fByte
  have hpush (q : StackPair) : exec (pushRow q) s = .next (pushed16 (s.cpu.getStack q) (cycle s)) := by
    rw [exec_pushRow, pushPair_eq]
  have hpop (q : StackPair) : exec (popRow q) s =
      .next { (popped16 s).2 with cpu := (popped16 s).2.cpu.setStack q (popped16 s).1 } := by
    rw [exec_popRow, popPair_eq]
  have hf : f.toByte = fByte := f.toByte_eq
  refine ⟨hpush .bc, hpush .de, hpush .hl, ?_, hpop .bc, hpop .de, hpop .hl, ?_⟩
  · rw [← hf]
    exact hpush .af
  · rw [← Flags.ofByte_lo]
    exact hpop .af

/-! ## Two addresses next to each other reach two cells -/

theorem wramKey_parity (b : BusRegs) {a : Word} (ha : 0xC000 ≤ a.toNat) : b.wramKey a % 2 = a.toNat % 2 := by
  unfold BusRegs.wramKey
  split <;> omega

/-- In every memory the bases and the banks are even, so an odd address reaches an odd key. -/
theorem place_parity {s : State} {a : Word} {c : Store × Nat} (h : s.place a = some c) : c.2 % 2 = a.toNat % 2 := by
  have hb := regionOf_bounds a
  unfold State.place at h
  split at h <;> rename_i hr <;> simp only [hr, regionRange] at hb
  case h_1 =>
    have hk := s.cart.romKey_eq (a := a) (by omega)
    cases h
    omega
  case h_2 =>
    cases h
    simp only [BusRegs.vramKey]
    omega
  case h_3 =>
    split at h
    · next b _ _ =>
      have hk : ramKey b a = b * 0x2000 + (a.toNat - 0xA000) := rfl
      cases h
      omega
    · cases h
  case h_4 | h_5 =>
    cases h
    exact wramKey_parity s.bus (by omega)
  case h_6 =>
    have hu : (unecho a).toNat = a.toNat - 0x2000 := by
      unfold unecho
      bv_omega
    cases h
    simp only [wramKey_parity s.bus (a := unecho a) (by omega)]
    omega
  case h_7 | h_10 =>
    cases h
    omega
  all_goals cases h

/-- The two bytes of a pushed word lie in two cells. -/
theorem place_sub_two_ne {s : State} {a : Word} {c : Store × Nat} (hc : s.place (a - 1) = some c) :
    s.place (a - 2) ≠ some c := by
  intro hd
  have h1 := place_parity hc
  have h2 := place_parity hd
  bv_omega

/-! ## A push to plain memory, and the pop -/

/-- An address is plain in every state whose cells lie as in this one. -/
theorem State.Plain.congr {s t : State} {a : Word} (h : s.Plain a) (hp : t.place a = s.place a) : t.Plain a :=
  h.imp fun _ ⟨hc, hrom⟩ => ⟨hp.trans hc, hrom⟩

/-- Elementary moves without a write keep what a plain address reads. -/
theorem Moves.busRead_of_no_write {s t : State} {a : Word} (h : Moves (fun _ => False) s t) (hs : s.hdma.active = false)
    (ha : s.Plain a) : busRead t a = busRead s a := by
  obtain ⟨c, hc, -⟩ := ha
  exact (h.keepsReads hs nofun).read a c hc nofun

/-- A byte pushed to plain memory: sp moves, a machine cycle passes, and one cell takes the byte. -/
theorem pushByte_of_place {s : State} {c : Store × Nat} (v : Byte) (hc : s.place (s.cpu.sp - 1) = some c) (hrom : c.1 ≠ .rom) :
    pushByte v s = (cycle { s with cpu.sp := s.cpu.sp - 1 }).putCell v c :=
  busWrite_of_place v ((place_cycle { s with cpu.sp := s.cpu.sp - 1 } _).trans hc) hrom

section
variable {s : State} (h1 : s.Plain (s.cpu.sp - 1))
include h1

/-- A byte pushed to plain memory changes sp and no other register. -/
theorem pushByte_cpu_of_plain (v : Byte) : (pushByte v s).cpu = { s.cpu with sp := s.cpu.sp - 1 } := by
  obtain ⟨c, hc, hrom⟩ := h1
  rw [pushByte_of_place v hc hrom, putCell_cpu, cycle_cpu]

theorem busRead_pushByte (v : Byte) : busRead (pushByte v s) (s.cpu.sp - 1) = v := by
  obtain ⟨c, hc, hrom⟩ := h1
  rw [pushByte_of_place v hc hrom, busRead_putCell_self ((place_cycle { s with cpu.sp := s.cpu.sp - 1 } _).trans hc)]

variable (hs : s.hdma.active = false)
include hs

theorem pushByte_keepsReads (v : Byte) : KeepsReads (s.cpu.sp - 1 = ·) s (pushByte v s) :=
  (Moves.refl.pushByte rfl v).keepsReads hs fun _ ha => ha ▸ h1

variable (h2 : s.Plain (s.cpu.sp - 2))
include h2

/-- A word pushed to plain memory: sp is two lower, no other register has changed, no cell has moved, no transfer is armed, and
the word stands at sp, low byte first. -/
theorem push16_of_plain (v : Word) :
    (push16 v s).cpu = { s.cpu with sp := s.cpu.sp - 2 } ∧ (push16 v s).hdma.active = false ∧
    (∀ a, (push16 v s).place a = s.place a) ∧
    busRead (push16 v s) (s.cpu.sp - 2) = lo v ∧ busRead (push16 v s) (s.cpu.sp - 1) = hi v := by
  have hsp : (pushByte (hi v) s).cpu.sp - 1 = s.cpu.sp - 2 := by
    rw [pushByte_sp]
    bv_omega
  have hfirst := pushByte_keepsReads h1 hs (hi v)
  have hplain : (pushByte (hi v) s).Plain ((pushByte (hi v) s).cpu.sp - 1) := hsp ▸ h2.congr (hfirst.place _)
  have hsecond := pushByte_keepsReads hplain hfirst.idle (lo v)
  refine ⟨?cpu, hsecond.idle, fun a => (hsecond.place a).trans (hfirst.place a), ?low, ?high⟩
  case cpu => rw [push16, pushByte_cpu_of_plain hplain, hsp, pushByte_cpu_of_plain h1]
  case low =>
    rw [← hsp]
    exact busRead_pushByte hplain (lo v)
  case high =>
    have hread := busRead_pushByte h1 (hi v)
    obtain ⟨c, hc, -⟩ := h1
    have hkeep := hsecond.read (s.cpu.sp - 1) c ((hfirst.place _).trans hc) fun a ha => by
      rw [← ha, hsp, hfirst.place]
      exact place_sub_two_ne hc
    exact hkeep.trans hread

end

/-- A word popped from plain memory is the two bytes that stand there before the pop. -/
theorem pop16_of_plain {s : State} (h0 : s.Plain s.cpu.sp) (h1 : s.Plain (s.cpu.sp + 1)) (hs : s.hdma.active = false) :
    (pop16 s).1 = word (busRead s (s.cpu.sp + 1)) (busRead s s.cpu.sp) := by
  have hlow := Moves.refl.cycle.busRead_of_no_write hs h0
  have hhigh := Moves.refl.popByte.cycle.busRead_of_no_write hs h1
  rw [← hlow, ← hhigh, pop16, popByte_eq, popByte_eq]

/-- What a push put on a stack in plain memory a pop takes off, and every register is back. -/
theorem pop16_push16 {s : State} (h1 : s.Plain (s.cpu.sp - 1)) (h2 : s.Plain (s.cpu.sp - 2)) (hs : s.hdma.active = false)
    (v : Word) : (pop16 (push16 v s)).1 = v ∧ (pop16 (push16 v s)).2.cpu = s.cpu := by
  obtain ⟨hcpu, hidle, hplace, hlow, hhigh⟩ := push16_of_plain h1 hs h2 v
  have hsp : (push16 v s).cpu.sp = s.cpu.sp - 2 := by rw [hcpu]
  have hnext : (push16 v s).cpu.sp + 1 = s.cpu.sp - 1 := by
    rw [hsp]
    bv_omega
  refine ⟨?word, ?cpu⟩
  case word =>
    have hpop := pop16_of_plain (hsp ▸ h2.congr (hplace _)) (hnext ▸ h1.congr (hplace _)) hidle
    rw [hpop, hnext, hsp, hlow, hhigh, word_hi_lo]
  case cpu => rw [pop16_cpu, hcpu, BitVec.sub_add_cancel]

/-- Settles O19: after PUSH's internal cycle the word is pushed, and POP takes it off. -/
theorem popReturnsWhatPushStored : Obligations.PopReturnsWhatPushStored := by
  intro q q' s h1 h2 hs
  refine ⟨pushPair q s, popPair q' (pushPair q s), exec_pushRow s q, exec_popRow _ q', ?_⟩
  have hplain {a : Word} (ha : s.Plain a) : (cycle s).Plain a := ha.congr (place_cycle s a)
  have hidle : (cycle s).hdma.active = false := by rw [cycle_hdma hs, hs]
  rw [← cycle_cpu s] at h1 h2
  obtain ⟨hword, hcpu⟩ := pop16_push16 (hplain h1) (hplain h2) hidle ((cycle s).cpu.getStack q)
  rw [popPair, pushPair, internal_eq, hword, hcpu, cycle_cpu]

end Sys2Proof.Machine

/-! PROOF. The 8-bit arithmetic and logic (42_alu8.md R250 to R281): what each operation makes of A and the flags, and the decimal
adjustment by its digits. -/

namespace Sys2Proof.Machine

open Sys2Proof.Claims

/-! ## The two-operand operations (R250 to R273) -/

/-- R290: the exact sum, taken to a byte, is the wrapping sum. -/
theorem add8_res (a v : Byte) (cin : Bool) : (add8 a v cin).res = aluRes .adc a v cin := by
  cases cin <;> simp [add8, aluRes, BitVec.ofNat_add]

/-- R291: the exact difference, taken to a byte, is the wrapping difference. -/
theorem sub8_res (a v : Byte) (bin : Bool) : (sub8 a v bin).res = aluRes .sbc a v bin := by
  cases bin <;>
    simp [sub8, aluRes, Int.sub_eq_add_neg, BitVec.sub_eq_add_neg, BitVec.ofInt_add, BitVec.ofInt_neg,
      BitVec.ofInt_natCast]

theorem add8_addFlags (a v : Byte) (cin : Bool) : (add8 a v cin).addFlags = aluFlags .adc a v cin := by
  simp only [Arith.addFlags, add8_res, beq_eq_decide]
  cases cin <;> rfl

theorem sub8_subFlags (a v : Byte) (bin : Bool) : (sub8 a v bin).subFlags = aluFlags .sbc a v bin := by
  simp only [Arith.subFlags, sub8_res, beq_eq_decide]
  cases bin <;> rfl

theorem aluRes_adc_false (a v : Byte) : aluRes .adc a v false = a + v := BitVec.add_zero _

theorem aluRes_sbc_false (a v : Byte) : aluRes .sbc a v false = a - v := BitVec.sub_zero _

/-- The byte and the flags of each operation, by the arithmetic of the statements; CP drops the byte. -/
theorem alu_eq (op : AluOp) (a v : Byte) (f : Flags) :
    alu op a v f = (if op = .cp then a else aluRes op a v f.c, aluFlags op a v f.c) := by
  cases op with
  | adc => simp only [alu, add8_res, add8_addFlags]; rfl
  | sbc => simp only [alu, sub8_res, sub8_subFlags]; rfl
  | add => simp only [alu, add8_res, add8_addFlags, aluFlags, aluRes_adc_false]; rfl
  | sub | cp => simp only [alu, sub8_res, sub8_subFlags, aluFlags, aluRes_sbc_false]; rfl
  | and => simp only [alu, andFlags, beq_eq_decide]; rfl
  | xor | or => simp only [alu, orFlags, beq_eq_decide]; rfl

theorem aluByte_eq (op : AluOp) (v : Byte) (s : State) : aluByte op v s = aluDone op v s := by
  rw [aluByte, alu_eq]
  rfl

/-- The memory form spends one machine cycle, reads the byte at HL, and then is the operation on that byte. -/
theorem aluOpd_atHL (op : AluOp) (s : State) :
    aluOpd op .atHL s = aluDone op (busRead (cycle s) s.cpu.hl) (cycle s) := aluByte_eq op _ _

theorem exec_aluReg (op : AluOp) (r : Reg8) (s : State) :
    exec (aluRow op (.reg r)) s = .next (aluDone op (s.cpu.get r) s) := by
  rw [exec_aluRow, ← aluByte_eq]
  rfl

/-- Settles O20: every form brings its byte to one operation on A. -/
theorem arithmeticAndLogic : Obligations.ArithmeticAndLogic := by
  refine fun op s => ⟨fun r => exec_aluReg op r s, fun n => ?_, ?_⟩
  · rw [exec_aluImmRow, aluByte_eq]
  · rw [exec_aluRow, aluOpd_atHL]
    rfl

/-! ## INC and DEC (R274 to R277) -/

/-- R274: the byte becomes 0 exactly from 0xFF. -/
theorem incFlags_eq (v : Byte) (f : Flags) :
    incFlags v f = { z := decide (v = 0xFF), n := false, h := decide (v.toNat % 16 = 15), c := f.c } := by
  have hz : v + 1 = 0 ↔ v = 0xFF := by bv_omega
  simp only [incFlags, beq_eq_decide, hz]

/-- R276: the byte becomes 0 exactly from 1. -/
theorem decFlags_eq (v : Byte) (f : Flags) :
    decFlags v f = { z := decide (v = 0x01), n := true, h := decide (v.toNat % 16 = 0), c := f.c } := by
  have hz : v - 1 = 0 ↔ v = 0x01 := by bv_omega
  simp only [decFlags, beq_eq_decide, hz]

theorem incOpd_atHL (s : State) :
    incOpd .atHL s =
      let v := busRead (cycle s) s.cpu.hl
      setFlags (incFlags v s.cpu.flags) (busWrite s.cpu.hl (v + 1) (cycle (cycle s))) := by
  simp only [incOpd, readOpd, writeOpd, memRead, memWrite, cycle_cpu]

theorem decOpd_atHL (s : State) :
    decOpd .atHL s =
      let v := busRead (cycle s) s.cpu.hl
      setFlags (decFlags v s.cpu.flags) (busWrite s.cpu.hl (v - 1) (cycle (cycle s))) := by
  simp only [decOpd, readOpd, writeOpd, memRead, memWrite, cycle_cpu]

/-- Settles O21: the register forms write the register and the flags; the memory forms read, then write, a cycle each. -/
theorem incrementAndDecrement : Obligations.IncrementAndDecrement := by
  intro s up down hl v afterWrite
  have hup (w : Byte) : incFlags w s.cpu.flags = up w := incFlags_eq w s.cpu.flags
  have hdown (w : Byte) : decFlags w s.cpu.flags = down w := decFlags_eq w s.cpu.flags
  refine ⟨fun r => ?_, fun r => ?_, congrArg Host.Outcome.next ?_, congrArg Host.Outcome.next ?_⟩
  · rw [exec_incRow, ← hup]
    rfl
  · rw [exec_decRow, ← hdown]
    rfl
  · rw [incOpd_atHL, ← hup]
    rfl
  · rw [decOpd_atHL, ← hdown]
    rfl

/-! ## CPL, SCF and CCF (R279 to R281) -/

/-- Settles O23: each is its write of A and the flags. -/
theorem complementAndCarryFlag : Obligations.ComplementAndCarryFlag := fun _ => ⟨rfl, rfl, rfl⟩

/-! ## DAA (R278) -/

section
variable {a : Byte} {f : Flags}

theorem daa_flags_z : (daa a f).2.z = decide ((daa a f).1 = 0) := beq_eq_decide _ _

/-- The correction that the two tests of DAA select. -/
theorem daa_adjustment_toNat (p q : Prop) [Decidable p] [Decidable q] :
    ((if p then 0x60 else 0x00 : Byte) + (if q then 0x06 else 0x00)).toNat =
      (if p then 0x60 else 0) + (if q then 6 else 0) := by
  split <;> split <;> rfl

/-- After an addition the tests look at the digits too, and the corrections are added. -/
theorem daa_of_add (hn : f.n = false) :
    (daa a f).2.c = decide (f.c = true ∨ a.toNat > 0x99) ∧
    (daa a f).1.toNat = (a.toNat + (if f.c = true ∨ a.toNat > 0x99 then 0x60 else 0) +
      (if f.h = true ∨ a.toNat % 16 > 9 then 6 else 0)) % 256 := by
  refine ⟨by simp [daa, hn], ?_⟩
  simp only [daa, hn, Bool.not_false, Bool.true_and, Bool.or_eq_true, decide_eq_true_eq, Bool.false_eq_true, if_false,
    BitVec.toNat_add a, daa_adjustment_toNat, Nat.add_assoc]

/-- After a subtraction only the flags count, and adding the corrections gives A back. -/
theorem daa_of_sub (hn : f.n = true) :
    (daa a f).2.c = f.c ∧
    ((daa a f).1.toNat + (if f.c = true then 0x60 else 0) + (if f.h = true then 6 else 0)) % 256 = a.toNat := by
  refine ⟨by simp [daa, hn], ?_⟩
  simp only [daa, hn, Bool.not_true, Bool.false_and, Bool.or_false, if_true, BitVec.toNat_sub, daa_adjustment_toNat]
  split <;> split <;> omega

end

/-! ### Two-digit decimal numbers -/

theorem bcd_toNat {n : Nat} (h : n < 100) : (bcd n).toNat = n / 10 * 16 + n % 10 := by
  simp only [bcd, BitVec.toNat_ofNat]
  omega

theorem bcd_low {n : Nat} (h : n < 100) : (bcd n).toNat % 16 = n % 10 := by
  rw [bcd_toNat h]
  omega

theorem eq_bcd_of_toNat {a : Byte} {n : Nat} (hn : n < 100) (h : a.toNat = n / 10 * 16 + n % 10) : a = bcd n :=
  BitVec.eq_of_toNat_eq (h.trans (bcd_toNat hn).symm)

section
variable {x y : Nat} (hx : x < 100) (hy : y < 100) (cin : Bool)
include hx hy

/-- The two tests of DAA after an addition find the decimal carries: out of the low digits, and out of the sum. -/
theorem daa_add_bcd :
    (daa (bcd x + bcd y) (aluFlags .add (bcd x) (bcd y) cin)).1 = bcd ((x + y) % 100) ∧
    (daa (bcd x + bcd y) (aluFlags .add (bcd x) (bcd y) cin)).2.c = decide (x + y ≥ 100) := by
  obtain ⟨hc, ha⟩ := daa_of_add (a := bcd x + bcd y) (f := aluFlags .add (bcd x) (bcd y) cin) rfl
  have hX := bcd_toNat hx
  have hY := bcd_toNat hy
  have hsum := BitVec.toNat_add (bcd x) (bcd y)
  have hlow : (aluFlags .add (bcd x) (bcd y) cin).h = true ∨ (bcd x + bcd y).toNat % 16 > 9 ↔ x % 10 + y % 10 ≥ 10 := by
    simp only [aluFlags, bcd_low hx, bcd_low hy, decide_eq_true_eq]
    omega
  have hhigh : (aluFlags .add (bcd x) (bcd y) cin).c = true ∨ (bcd x + bcd y).toNat > 0x99 ↔ x + y ≥ 100 := by
    simp only [aluFlags, decide_eq_true_eq]
    omega
  simp only [hhigh, hlow] at hc ha
  refine ⟨eq_bcd_of_toNat (by omega) ?_, hc⟩
  split at ha <;> split at ha <;> omega

/-- The borrows of a subtraction are the decimal borrows: out of the low digits, and out of the difference. -/
theorem daa_sub_bcd :
    (daa (bcd x - bcd y) (aluFlags .sub (bcd x) (bcd y) cin)).1 = bcd ((x + 100 - y) % 100) ∧
    (daa (bcd x - bcd y) (aluFlags .sub (bcd x) (bcd y) cin)).2.c = decide (x < y) := by
  obtain ⟨hc, ha⟩ := daa_of_sub (a := bcd x - bcd y) (f := aluFlags .sub (bcd x) (bcd y) cin) rfl
  have hX := bcd_toNat hx
  have hY := bcd_toNat hy
  have hdiff := BitVec.toNat_sub (bcd x) (bcd y)
  have hlow : (aluFlags .sub (bcd x) (bcd y) cin).h = true ↔ x % 10 < y % 10 := by
    simp only [aluFlags, bcd_low hx, bcd_low hy, decide_eq_true_eq]
  have hhigh : (aluFlags .sub (bcd x) (bcd y) cin).c = true ↔ x < y := by
    simp only [aluFlags, decide_eq_true_eq]
    omega
  simp only [hhigh, hlow] at ha
  refine ⟨eq_bcd_of_toNat (by omega) ?_, by rw [hc, Bool.eq_iff_iff, hhigh, decide_eq_true_iff]⟩
  split at ha <;> split at ha <;> omega

end

/-- Settles O22: DAA writes A and the flags of `daa`, which corrects what ADD and SUB make of two decimal numbers. -/
theorem decimalAdjust : Obligations.DecimalAdjust := by
  refine ⟨fun s => ⟨_, rfl, rfl, daa_flags_z, rfl, rfl, daa_of_add, daa_of_sub⟩, fun x y s hx hy ha hb => ⟨?add, ?sub⟩⟩
  case add =>
    refine ⟨_, _, exec_aluReg .add .b s, rfl, ?_⟩
    have h := daa_add_bcd hx hy s.cpu.flags.c
    rw [← ha, ← hb] at h
    exact h
  case sub =>
    refine ⟨_, _, exec_aluReg .sub .b s, rfl, ?_⟩
    have h := daa_sub_bcd hx hy s.cpu.flags.c
    rw [← ha, ← hb] at h
    exact h

end Sys2Proof.Machine

/-! PROOF. The 16-bit addition to HL (43_alu16.md R300). -/

namespace Sys2Proof.Machine

/-- The internal cycle leaves the operands as they were, so it may come first. -/
theorem addHL_eq (q : Pair) (s : State) :
    addHL q s =
      { cycle s with cpu := { s.cpu.setPair .hl (s.cpu.hl + s.cpu.getPair q) with
        flags := addHLFlags s.cpu.hl (s.cpu.getPair q) s.cpu.flags } } := by
  simp only [addHL, internal_eq, setFlags, setPair, cycle_cpu]

/-- R300: H and C are the carries of the exact sums of the low 12 bits and of the whole words. -/
theorem addHLFlags_eq (x y : Word) (f : Flags) :
    addHLFlags x y f =
      { z := f.z, n := false
        h := decide (x.toNat % 4096 + y.toNat % 4096 ≥ 4096), c := decide (x.toNat + y.toNat ≥ 65536) } := rfl

/-- Settles O24: one internal cycle, then HL takes the exact sum modulo 2^16, and the flags its carries. -/
theorem addToHL : Obligations.AddToHL := by
  intro q s x y sum
  have hsum : s.cpu.hl + y = sum := BitVec.add_def _ _
  rw [exec_addHLRow, addHL_eq, hsum, addHLFlags_eq]
  rfl

end Sys2Proof.Machine

/-! PROOF. Rotates, shifts and bit operations (44_rotate_shift_bit.md R310 to R347): the bit fields of the rules as operations on
the whole byte, and the instructions from them. -/

namespace Sys2Proof.Machine

open Sys2Proof.Claims

/-! ## The bit fields as shifts and rotations (R340 to R347) -/

/-- Two fields of a word exchanged: the word rotated left by the width of its upper field. -/
theorem exchange_eq_rotateLeft {n m : Nat} (hn : 0 < n) (v : BitVec (n + m)) :
    v.extractLsb' 0 n ++ v.extractLsb' n m = v.rotateLeft m := by
  apply BitVec.eq_of_getLsbD_eq
  intro i hi
  rw [BitVec.getLsbD_append, BitVec.getLsbD_rotateLeft_of_le (by omega)]
  simp only [BitVec.getLsbD_extractLsb', Nat.add_sub_cancel, Nat.zero_add, cond_eq_ite, decide_eq_true_eq]
  by_cases h : i < m
  · simp [h]
  · simp [h, hi, show i - m < n by omega]

/-- The same exchange as a rotation to the right, by the width of the lower field. -/
theorem exchange_eq_rotateRight {n m : Nat} (hn : 0 < n) (hm : 0 < m) (v : BitVec (n + m)) :
    v.extractLsb' 0 n ++ v.extractLsb' n m = v.rotateRight n := by
  have hn' : n % (n + m) = n := Nat.mod_eq_of_lt (by omega)
  have hm' : m % (n + m) = m := Nat.mod_eq_of_lt (by omega)
  rw [exchange_eq_rotateLeft hn, BitVec.rotateLeft_def, BitVec.rotateRight_def, hn', hm', Nat.add_sub_cancel,
    Nat.add_sub_cancel_left, BitVec.or_comm]

/-- A bit that comes in below a byte shifted left. -/
theorem extractLsb'_append_bit (v : Byte) (b : Bool) :
    v.extractLsb' 0 7 ++ bit b = v <<< 1 ||| (if b then 0x01 else 0x00) := by
  rw [BitVec.append_def, BitVec.setWidth'_eq, BitVec.shiftLeft_eq_concat_of_lt (by decide), BitVec.append_def]
  cases b <;> simp [bit]

/-- A bit that comes in above a byte shifted right. -/
theorem bit_append_extractLsb' (v : Byte) (b : Bool) :
    bit b ++ v.extractLsb' 1 7 = v >>> 1 ||| (if b then 0x80 else 0x00) := by
  rw [BitVec.append_def, BitVec.setWidth'_eq, BitVec.ushiftRight_eq_extractLsb'_of_lt (by decide), BitVec.append_def,
    BitVec.or_comm]
  cases b <;> simp [bit]

/-- R345: the sign bit above a byte shifted right. -/
theorem sign_append_extractLsb' (v : Byte) : v.extractLsb' 7 1 ++ v.extractLsb' 1 7 = v.sshiftRight 1 := by
  apply BitVec.eq_of_getLsbD_eq
  intro i hi
  rw [BitVec.getLsbD_append, BitVec.getLsbD_sshiftRight]
  simp only [BitVec.getLsbD_extractLsb', BitVec.msb_eq_getLsbD_last]
  by_cases h : i < 7
  · simp [h, show 1 + i < 8 by omega, show ¬ 8 ≤ i by omega]
  · simp [show i = 7 by omega]

theorem rotate_eq (op : RotOp) (v : Byte) (cin : Bool) : rotate op v cin = rotRes op v cin := by
  have hmsb : v.getLsbD 7 = v.msb := v.msb_eq_getLsbD_last.symm
  cases op with
  | rlc => exact congrArg₂ Prod.mk (exchange_eq_rotateLeft (n := 7) (m := 1) (by decide) v) hmsb
  | rrc => exact congrArg (·, _) (exchange_eq_rotateRight (n := 1) (m := 7) (by decide) (by decide) v)
  | rl => exact congrArg₂ Prod.mk (extractLsb'_append_bit v cin) hmsb
  | rr => exact congrArg (·, _) (bit_append_extractLsb' v cin)
  | sla => exact congrArg₂ Prod.mk ((extractLsb'_append_bit v false).trans BitVec.or_zero) hmsb
  | sra => exact congrArg (·, _) (sign_append_extractLsb' v)
  | swap => exact congrArg (·, _) (exchange_eq_rotateLeft (n := 4) (m := 4) (by decide) v)
  | srl => exact congrArg (·, _) ((bit_append_extractLsb' v false).trans BitVec.or_zero)

theorem rotFlags_eq (r : Byte × Bool) : rotFlags r = rotF r := by
  rw [rotFlags, beq_eq_decide]
  rfl

/-! ## The operand (HL) -/

/-- The memory forms read, then write, a machine cycle each, at the same address: the read leaves HL alone. -/
theorem writeOpd_atHL_readOpd (v : Byte) (s : State) :
    writeOpd .atHL v (readOpd .atHL s).2 = busWrite s.cpu.hl v (cycle (cycle s)) := by
  simp only [readOpd, writeOpd, memRead, memWrite, cycle_cpu]

/-! ## The rotates and shifts (R310 to R329) -/

theorem rotA_eq (op : RotOp) (s : State) :
    rotA op s =
      let r := rotRes op s.cpu.a s.cpu.flags.c
      { s with cpu.a := r.1, cpu.flags := { z := false, n := false, h := false, c := r.2 } } := by
  rw [rotA, rotate_eq]
  rfl

theorem rotOpd_reg (op : RotOp) (r : Reg8) (s : State) :
    rotOpd op (.reg r) s =
      let x := rotRes op (s.cpu.get r) s.cpu.flags.c
      { s with cpu := { s.cpu.set r x.1 with flags := rotF x } } := by
  rw [rotOpd, rotate_eq, rotFlags_eq]
  rfl

theorem rotOpd_atHL (op : RotOp) (s : State) :
    rotOpd op .atHL s =
      let x := rotRes op (busRead (cycle s) s.cpu.hl) s.cpu.flags.c
      setFlags (rotF x) (busWrite s.cpu.hl x.1 (cycle (cycle s))) := by
  rw [rotOpd, rotate_eq, rotFlags_eq, writeOpd_atHL_readOpd]
  rfl

/-- Settles O26: the bit fields of each operation are its shift or rotation, and each form is that operation on its operand. -/
theorem rotatesAndShifts : Obligations.RotatesAndShifts := by
  intro s c acc
  have hacc (op : RotOp) : Host.Outcome.next (rotA op s) = acc op := by rw [rotA_eq]
  refine ⟨hacc .rlc, hacc .rrc, hacc .rl, hacc .rr, fun op => ⟨fun r => ?_, ?_⟩⟩
  · rw [exec_rotRow, rotOpd_reg]
  · rw [exec_rotRow, rotOpd_atHL]
    rfl

/-! ## BIT, RES and SET (R330 to R335) -/

/-- The mask of RES and SET has bit `k` alone. -/
theorem getLsbD_one_shiftLeft (k : Nat) {j : Nat} (hj : j < 8) : (1#8 <<< k).getLsbD j = decide (j = k) := by
  rw [← BitVec.twoPow_eq, BitVec.getLsbD_twoPow, ← Bool.decide_and, decide_eq_decide]
  omega

theorem getLsbD_res (v : Byte) (k : Nat) {j : Nat} (hj : j < 8) :
    (v &&& ~~~(1#8 <<< k)).getLsbD j = (v.getLsbD j && decide (j ≠ k)) := by
  rw [BitVec.getLsbD_and, BitVec.getLsbD_not, getLsbD_one_shiftLeft k hj, decide_eq_true hj, Bool.true_and, decide_not]

theorem getLsbD_set (v : Byte) (k : Nat) {j : Nat} (hj : j < 8) :
    (v ||| 1#8 <<< k).getLsbD j = (v.getLsbD j || decide (j = k)) := by
  rw [BitVec.getLsbD_or, getLsbD_one_shiftLeft k hj]

theorem bitOpd_atHL (k : Nat) (s : State) :
    bitOpd k .atHL s = setFlags (bitFlags (busRead (cycle s) s.cpu.hl) k s.cpu.flags) (cycle s) := rfl

theorem resOpd_atHL (k : Nat) (s : State) :
    resOpd k .atHL s =
      busWrite s.cpu.hl (busRead (cycle s) s.cpu.hl &&& ~~~(1#8 <<< k)) (cycle (cycle s)) := writeOpd_atHL_readOpd _ s

theorem setOpd_atHL (k : Nat) (s : State) :
    setOpd k .atHL s =
      busWrite s.cpu.hl (busRead (cycle s) s.cpu.hl ||| 1#8 <<< k) (cycle (cycle s)) := writeOpd_atHL_readOpd _ s

/-- Settles O27: BIT writes the flags alone; RES and SET write their operand with the one bit of the mask changed. -/
theorem bitOperations : Obligations.BitOperations := by
  intro k s hl m tested
  refine ⟨fun r => exec_bitRow s k (.reg r), ?bitAtHL, fun r => ⟨_, exec_resRow s k (.reg r), fun _ => getLsbD_res _ _⟩,
    ⟨_, ?resAtHL, fun _ => getLsbD_res m _⟩, fun r => ⟨_, exec_setRow s k (.reg r), fun _ => getLsbD_set _ _⟩,
    ⟨_, ?setAtHL, fun _ => getLsbD_set m _⟩⟩
  case bitAtHL =>
    rw [exec_bitRow, bitOpd_atHL, setFlags, cycle_cpu]
    rfl
  case resAtHL =>
    rw [exec_resRow, resOpd_atHL]
    rfl
  case setAtHL =>
    rw [exec_setRow, setOpd_atHL]
    rfl

end Sys2Proof.Machine

/-! PROOF. Control transfer (45_control_transfer.md): which instructions touch the control state, and each jump, call and return as
one equation. -/

namespace Sys2Proof.Machine

open Sys2Proof.Claims

/-! ## The control state -/

/-- The control state of the processor: the master enable and its deferral, the status, the speed, the fault. -/
def State.control (s : State) : Bool × Bool × Status × Speed × Option Fatal :=
  (s.cpu.ime, s.cpu.eiDelay, s.cpu.status, s.cpu.speed, s.cpu.fault)

section
variable (s : State)

@[simp] theorem cycle_control : (cycle s).control = s.control := by rw [State.control, cycle_cpu, State.control]

@[simp] theorem busWrite_control (a : Word) (v : Byte) : (busWrite a v s).control = s.control :=
  settled_congr State.control (busWrite_settled a v s) fun _ => rfl

@[simp] theorem memRead_control (a : Word) : (memRead a s).2.control = s.control := cycle_control s

@[simp] theorem memWrite_control (a : Word) (v : Byte) : (memWrite a v s).control = s.control := by simp [memWrite]

@[simp] theorem setReg_control (r : Reg8) (v : Byte) : (setReg r v s).control = s.control := by cases r <;> rfl

@[simp] theorem setPair_control (q : Pair) (v : Word) : (setPair q v s).control = s.control := by cases q <;> rfl

@[simp] theorem setFlags_control (f : Flags) : (setFlags f s).control = s.control := rfl

@[simp] theorem setAccFlags_control (r : Byte × Flags) : (setAccFlags r s).control = s.control := rfl

@[simp] theorem setPc_control (v : Word) : (setPc v s).control = s.control := rfl

@[simp] theorem loadA_control (a : Word) : (loadA a s).control = s.control := by simp [loadA]

@[simp] theorem storeA_control (a : Word) : (storeA a s).control = s.control := by simp [storeA]

@[simp] theorem readOpd_control (o : Opd8) : (readOpd o s).2.control = s.control := by
  cases o with
  | reg r => rfl
  | atHL => exact memRead_control s _

@[simp] theorem writeOpd_control (o : Opd8) (v : Byte) : (writeOpd o v s).control = s.control := by
  cases o with
  | reg r => exact setReg_control s r v
  | atHL => exact memWrite_control s _ v

@[simp] theorem pushByte_control (v : Byte) : (pushByte v s).control = s.control := by
  rw [pushByte, memWrite_control]
  rfl

@[simp] theorem push16_control (v : Word) : (push16 v s).control = s.control := by simp [push16]

@[simp] theorem pop16_control : (pop16 s).2.control = s.control := by rw [State.control, pop16_cpu, State.control]

@[simp] theorem popPc_control : (popPc s).control = s.control := by
  show (setPc _ (cycle (pop16 s).2)).control = _
  simp

@[simp] theorem popPair_control (q : StackPair) : (popPair q s).control = s.control := by
  rw [← pop16_control s]
  cases q <;> rfl

theorem whenCond_control (cc : Cond) {f : State → State} (hf : ∀ t, (f t).control = t.control) :
    (whenCond cc f s).control = s.control := by
  rw [whenCond, apply_ite State.control, hf, ite_self]

@[simp] theorem jump_control (nn : Word) : (jump nn s).control = s.control := by simp [jump]

@[simp] theorem jumpRel_control (e : Byte) : (jumpRel e s).control = s.control := by simp [jumpRel]

@[simp] theorem callTo_control (nn : Word) : (callTo nn s).control = s.control  := by simp [callTo]

@[simp] theorem rotOpd_control (op : RotOp) (o : Opd8) : (rotOpd op o s).control = s.control := by simp [rotOpd]

@[simp] theorem bitOpd_control (k : Nat) (o : Opd8) : (bitOpd k o s).control = s.control := by simp [bitOpd]

@[simp] theorem resOpd_control (k : Nat) (o : Opd8) : (resOpd k o s).control = s.control := by simp [resOpd]

@[simp] theorem setOpd_control (k : Nat) (o : Opd8) : (setOpd k o s).control = s.control := by simp [setOpd]

@[simp] theorem extended_control (op2 : Byte) : (extended op2 s).control = s.control := by
  unfold extended
  dsimp only
  split
  · exact rotOpd_control s _ _
  · exact bitOpd_control s _ _
  · exact resOpd_control s _ _
  · exact setOpd_control s _ _

/-- STOP touches neither the master enable, nor its deferral, nor the fault (46_system.md R377). -/
theorem stopNow_keeps : (stopNow s).cpu.ime = s.cpu.ime ∧ (stopNow s).cpu.eiDelay = s.cpu.eiDelay ∧
    (stopNow s).cpu.fault = s.cpu.fault := by
  unfold stopNow
  obtain ⟨twoBytes, divider, toggle, after⟩ := s.stopRow
  cases twoBytes <;> cases divider <;> cases toggle <;> exact ⟨rfl, rfl, rfl⟩

end

/-! ## Which instructions touch it -/

/-- The instruction completes in every state, and changes a part of the control state only where the spec lets it. -/
def ControlAsStated (i : Instr) : Prop :=
  ∀ s, ∃ t, exec i s = .next t ∧
    (i ≠ .di → i ≠ .reti → t.cpu.ime = s.cpu.ime) ∧
    (i ≠ .ei → i ≠ .di → t.cpu.eiDelay = s.cpu.eiDelay) ∧
    (i ≠ .halt → i ≠ .stop → t.cpu.status = s.cpu.status) ∧
    (i ≠ .stop → t.cpu.speed = s.cpu.speed) ∧
    ((∀ op, (op, i) ∉ illegals) → t.cpu.fault = s.cpu.fault)

/-- An instruction that keeps the whole control state. -/
theorem ControlAsStated.of_keeps {i : Instr} {f : State → State} (h : ∀ s, exec i s = .next (f s))
    (hf : ∀ s, (f s).control = s.control) : ControlAsStated i := fun s => by
  have hc := hf s
  simp only [State.control, Prod.mk.injEq] at hc
  obtain ⟨hime, hei, hstatus, hspeed, hfault⟩ := hc
  exact ⟨f s, h s, fun _ _ => hime, fun _ _ => hei, fun _ _ => hstatus, fun _ => hspeed, fun _ => hfault⟩

/-- The six kinds of row that touch the control state come first; every other row keeps it. -/
theorem controlAsStated_rows : OfRows ControlAsStated where
  stop s :=
    have ⟨hime, hei, hfault⟩ := stopNow_keeps s
    ⟨_, rfl, fun _ _ => hime, fun _ _ => hei, fun _ h => absurd rfl h, fun h => absurd rfl h, fun _ => hfault⟩
  halt _ := ⟨_, rfl, fun _ _ => rfl, fun _ _ => rfl, fun h => absurd rfl h, fun _ => rfl, fun _ => rfl⟩
  di _ := ⟨_, rfl, fun h => absurd rfl h, fun _ h => absurd rfl h, fun _ _ => rfl, fun _ => rfl, fun _ => rfl⟩
  ei _ := ⟨_, rfl, fun _ _ => rfl, fun h => absurd rfl h, fun _ _ => rfl, fun _ => rfl, fun _ => rfl⟩
  reti s := by
    have hc := popPc_control s
    simp only [State.control, Prod.mk.injEq] at hc
    obtain ⟨-, hei, hstatus, hspeed, hfault⟩ := hc
    exact ⟨_, rfl, fun _ h => absurd rfl h, fun _ _ => hei, fun _ _ => hstatus, fun _ => hspeed, fun _ => hfault⟩
  illegal _ _ hi s :=
    ⟨_, exec_illegal s hi, fun _ _ => rfl, fun _ _ => rfl, fun _ _ => rfl, fun _ => rfl, fun hne => absurd hi (hne _)⟩
  nop := .of_keeps (f := id) (fun _ => rfl) fun _ => rfl
  prefixCB op2 := .of_keeps (fun _ => rfl) (extended_control · op2)
  ldReg r o := .of_keeps (exec_ldReg · r o) fun _ => by simp [loadOpd]
  ldMem r := .of_keeps (exec_ldMem · r) fun _ => by simp [loadOpd]
  ldImm o n := .of_keeps (exec_ldImmRow · o n) (writeOpd_control · o n)
  ldAMBC := .of_keeps (fun _ => rfl) fun _ => loadA_control _ _
  ldAMDE := .of_keeps (fun _ => rfl) fun _ => loadA_control _ _
  ldAMnn _ := .of_keeps (fun _ => rfl) fun _ => loadA_control _ _
  ldhAMC := .of_keeps (fun _ => rfl) fun _ => loadA_control _ _
  ldhAMn _ := .of_keeps (fun _ => rfl) fun _ => loadA_control _ _
  ldMBCA := .of_keeps (fun _ => rfl) fun _ => storeA_control _ _
  ldMDEA := .of_keeps (fun _ => rfl) fun _ => storeA_control _ _
  ldMnnA _ := .of_keeps (fun _ => rfl) fun _ => storeA_control _ _
  ldhMCA := .of_keeps (fun _ => rfl) fun _ => storeA_control _ _
  ldhMnA _ := .of_keeps (fun _ => rfl) fun _ => storeA_control _ _
  ldAMHLInc := .of_keeps (fun _ => rfl) fun _ => by simp [loadAStep, stepHL]
  ldAMHLDec := .of_keeps (fun _ => rfl) fun _ => by simp [loadAStep, stepHL]
  ldMHLIncA := .of_keeps (fun _ => rfl) fun _ => by simp [storeAStep, stepHL]
  ldMHLDecA := .of_keeps (fun _ => rfl) fun _ => by simp [storeAStep, stepHL]
  ldPair q nn := .of_keeps (exec_ldPairRow · q nn) (setPair_control · q nn)
  ldMnnSP _ := .of_keeps (fun _ => rfl) fun _ => by simp [storeSP, memWrite16]
  ldSPHL := .of_keeps (fun _ => rfl) fun _ => (cycle_control _).trans rfl
  ldHLSPe _ := .of_keeps (fun _ => rfl) fun _ => by simp [loadHLSP]
  push q := .of_keeps (exec_pushRow · q) fun _ => by simp [pushPair]
  pop q := .of_keeps (exec_popRow · q) (popPair_control · q)
  alu op o := .of_keeps (exec_aluRow · op o) fun _ => by simp [aluOpd, aluByte]
  aluImm op n := .of_keeps (exec_aluImmRow · op n) fun _ => setAccFlags_control _ _
  inc o := .of_keeps (exec_incRow · o) fun _ => by simp [incOpd]
  dec o := .of_keeps (exec_decRow · o) fun _ => by simp [decOpd]
  daa := .of_keeps (fun _ => rfl) fun _ => setAccFlags_control _ _
  cpl := .of_keeps (fun _ => rfl) fun _ => setAccFlags_control _ _
  scf := .of_keeps (fun _ => rfl) fun _ => setFlags_control _ _
  ccf := .of_keeps (fun _ => rfl) fun _ => setFlags_control _ _
  addHL q := .of_keeps (exec_addHLRow · q) fun _ => by simp [addHL]
  incPair q := .of_keeps (exec_incPairRow · q) fun _ => by simp [incPair]
  decPair q := .of_keeps (exec_decPairRow · q) fun _ => by simp [decPair]
  addSPe _ := .of_keeps (fun _ => rfl) fun _ => by simp [addSP]
  rlca := .of_keeps (fun _ => rfl) fun _ => setAccFlags_control _ _
  rrca := .of_keeps (fun _ => rfl) fun _ => setAccFlags_control _ _
  rla := .of_keeps (fun _ => rfl) fun _ => setAccFlags_control _ _
  rra := .of_keeps (fun _ => rfl) fun _ => setAccFlags_control _ _
  rot op o := .of_keeps (exec_rotRow · op o) (rotOpd_control · op o)
  bit k o := .of_keeps (exec_bitRow · k o) (bitOpd_control · _ o)
  res k o := .of_keeps (exec_resRow · k o) (resOpd_control · _ o)
  set k o := .of_keeps (exec_setRow · k o) (setOpd_control · _ o)
  jpnn nn := .of_keeps (fun _ => rfl) (jump_control · nn)
  jp cc nn := .of_keeps (exec_jpRow · cc nn) (whenCond_control · cc (jump_control · nn))
  jpHL := .of_keeps (fun _ => rfl) fun _ => setPc_control _ _
  jre e := .of_keeps (fun _ => rfl) (jumpRel_control · e)
  jr cc e := .of_keeps (exec_jrRow · cc e) (whenCond_control · cc (jumpRel_control · e))
  callnn nn := .of_keeps (fun _ => rfl) (callTo_control · nn)
  call cc nn := .of_keeps (exec_callRow · cc nn) (whenCond_control · cc (callTo_control · nn))
  rst k := .of_keeps (exec_rstRow · k) (callTo_control · _)
  ret := .of_keeps (fun _ => rfl) popPc_control
  retIf cc := .of_keeps (exec_retRow · cc) fun s => (whenCond_control _ cc popPc_control).trans (cycle_control s)

/-- Settles O38, row by row. -/
theorem controlStateChangesOnlyWhereStated : Obligations.ControlStateChangesOnlyWhereStated := controlAsStated_rows.all

/-! ## Conditions (R361) -/

/-- Whether the operation is made or not, as one result. -/
theorem next_whenCond (cc : Cond) (f : State → State) (s : State) :
    (.next (whenCond cc f s) : Result) = if condHolds cc s.cpu.flags then .next (f s) else .next s :=
  apply_ite Host.Outcome.next _ _ _

/-- The conditions NZ and NC are the negated flags. -/
theorem ite_bool_not {α : Type} (b : Bool) (x y : α) : (if !b then x else y) = if b then y else x := by cases b <;> rfl

/-! ## Jumps, calls and returns as equations -/

theorem jumpRel_eq (e : Byte) (s : State) :
    jumpRel e s = { cycle s with cpu.pc := BitVec.ofInt 16 ((s.cpu.pc.toNat : Int) + e.toInt) } := by
  rw [jumpRel, internal_eq, cycle_cpu, add_sext16]
  rfl

theorem callTo_eq (nn : Word) (s : State) : callTo nn s = setPc nn (pushed16 s.cpu.pc (cycle s)) := by
  rw [callTo, internal_eq, cycle_cpu]
  rfl

theorem popPc_eq (s : State) : popPc s = setPc (popped16 s).1 (cycle (popped16 s).2) := by
  rw [popPc, pop16_eq]
  rfl

/-- Settles O28: each conditional row is its jump where the condition holds. -/
theorem jumps : Obligations.Jumps := by
  intro s go rel
  have hjp (cc : Cond) (nn : Word) : exec (jpRow cc nn) s = if condHolds cc s.cpu.flags then go nn else .next s := by
    rw [exec_jpRow, next_whenCond]
    rfl
  have hrel (e : Byte) : Host.Outcome.next (jumpRel e s) = go (rel e) := by rw [jumpRel_eq]
  have hjr (cc : Cond) (e : Byte) : exec (jrRow cc e) s = if condHolds cc s.cpu.flags then go (rel e) else .next s := by
    rw [exec_jrRow, next_whenCond, hrel]
  exact ⟨rfl, fun _ => rfl, hrel, fun nn => (hjp .nz nn).trans (ite_bool_not _ _ _), hjp .z,
    fun nn => (hjp .nc nn).trans (ite_bool_not _ _ _), hjp .c, fun e => (hjr .nz e).trans (ite_bool_not _ _ _), hjr .z,
    fun e => (hjr .nc e).trans (ite_bool_not _ _ _), hjr .c⟩

/-- Settles O29: each row is the one call, to its own target and where its condition holds. -/
theorem calls : Obligations.Calls := by
  intro s go
  have hgo (nn : Word) : Host.Outcome.next (callTo nn s) = go nn := by
    rw [callTo_eq]
    rfl
  have hcall (cc : Cond) (nn : Word) : exec (callRow cc nn) s = if condHolds cc s.cpu.flags then go nn else .next s := by
    rw [exec_callRow, next_whenCond, hgo]
  exact ⟨hgo, fun k => (exec_rstRow s k).trans (hgo _), fun nn => (hcall .nz nn).trans (ite_bool_not _ _ _), hcall .z,
    fun nn => (hcall .nc nn).trans (ite_bool_not _ _ _), hcall .c⟩

/-- Settles O30: the conditional rows test the flags after the first internal cycle, which keeps them. -/
theorem returns : Obligations.Returns := by
  intro s back
  have hback (u : State) : popPc u = back u := popPc_eq u
  have hret (cc : Cond) : exec (retRow cc) s =
      if condHolds cc s.cpu.flags then .next (back (cycle s)) else .next (cycle s) := by
    rw [exec_retRow, returnIf, internal_eq, next_whenCond, cycle_cpu, hback]
  refine ⟨congrArg Host.Outcome.next (hback s), ?reti, (hret .nz).trans (ite_bool_not _ _ _), hret .z,
    (hret .nc).trans (ite_bool_not _ _ _), hret .c⟩
  case reti =>
    rw [← hback]
    rfl

end Sys2Proof.Machine

/-! PROOF. The system instructions, the prefix and the undefined opcodes (46_system.md R370 to R377). -/

namespace Sys2Proof

theorem Oct.toNat_ofCode {k : Nat} (hk : k < 8) : (Oct.ofCode k).toNat = k := by
  interval_cases k <;> rfl

end Sys2Proof

namespace Sys2Proof.Machine

open Sys2Proof.Claims

/-! ## The prefix (R375; 30_encoding.md R180) -/

theorem exec_bitRow_ofCode (s : State) {k : Nat} (hk : k < 8) (o : Opd8) :
    exec (bitRow (Oct.ofCode k) o) s = .next (bitOpd k o s) := by rw [exec_bitRow, Oct.toNat_ofCode hk]

theorem exec_resRow_ofCode (s : State) {k : Nat} (hk : k < 8) (o : Opd8) :
    exec (resRow (Oct.ofCode k) o) s = .next (resOpd k o s) := by rw [exec_resRow, Oct.toNat_ofCode hk]

theorem exec_setRow_ofCode (s : State) {k : Nat} (hk : k < 8) (o : Opd8) :
    exec (setRow (Oct.ofCode k) o) s = .next (setOpd k o s) := by rw [exec_setRow, Oct.toNat_ofCode hk]

/-- An extended row means the operation on the operand that the fields of its opcode name: the field x selects the row and
the operation alike. -/
theorem exec_extendedRow (op2 : Byte) (s : State) : exec (extendedRow op2) s = .next (extended op2 s) := by
  have hx : op2.toNat / 64 < 4 := by omega
  have hy : op2.toNat / 8 % 8 < 8 := Nat.mod_lt _ (by decide)
  unfold extendedRow extended
  interval_cases op2.toNat / 64
  · exact exec_rotRow s _ _
  · exact exec_bitRow_ofCode s hy _
  · exact exec_resRow_ofCode s hy _
  · exact exec_setRow_ofCode s hy _

/-- Settles O4: both are the one operation that the fields of the second byte select. -/
theorem prefixExecutesTheExtendedRow : Obligations.PrefixExecutesTheExtendedRow := fun op2 s =>
  ⟨(exec_extendedRow op2 s).symm, _, rfl⟩

/-! ## The interrupt enable (R370 to R374; 60_exceptions.md R404) -/

theorem interruptCheck_of_eiDelay {s : State} (h : s.cpu.eiDelay = true) :
    interruptCheck s = { s with cpu.ime := true, cpu.eiDelay := false } := if_pos h

/-- Settles O31: each instruction is its one update, and the deferred enable comes before any dispatch. -/
theorem nopHaltAndTheInterruptEnable : Obligations.NopHaltAndTheInterruptEnable := fun _ =>
  ⟨rfl, rfl, rfl, rfl, interruptCheck_of_eiDelay⟩

/-! ## STOP (R372, R377) -/

/-- STOP does the row of its table that its three inputs select. -/
theorem exec_stop {s : State} {button armed pending : Bool} (hb : decide (s.joypad.lines ≠ 0b1111) = button)
    (ha : decide (s.cpu.speedArmed = true ∧ s.cfg.mode = .color) = armed) (hp : decide (s.irq.pending ≠ 0) = pending) :
    exec .stop s = .next ((stopRow button armed pending).apply s) := by
  subst hb ha hp
  rw [Bool.decide_and, Bool.decide_eq_true]
  rfl

theorem Speed.other_eq (v : Speed) : v.other = if v = .normal then .double else .normal := by cases v <;> rfl

/-- Settles O32: each row of the table is applied under its own inputs. -/
theorem stopFollowsItsTable : Obligations.StopFollowsItsTable := by
  intro s button armed pending passed other
  have hother : s.cpu.speed.other = other := s.cpu.speed.other_eq
  refine ⟨fun hb ha hp => ?stopped, fun hb ha hp => ?stoppedPending, fun hb hp => ?halted, fun hb hp => ?active,
    fun hb ha hp => ?toggled, fun hb ha hp => ?toggledPending⟩
  case stopped => exact exec_stop (decide_eq_false hb) (decide_eq_false ha) (decide_eq_false hp)
  case stoppedPending => exact exec_stop (decide_eq_false hb) (decide_eq_false ha) (decide_eq_true hp)
  case halted => exact exec_stop (decide_eq_true hb) rfl (decide_eq_false hp)
  case active => exact exec_stop (decide_eq_true hb) rfl (decide_eq_true hp)
  case toggled =>
    rw [← hother]
    exact exec_stop (decide_eq_false hb) (decide_eq_true ha) (decide_eq_false hp)
  case toggledPending =>
    rw [← hother]
    exact exec_stop (decide_eq_false hb) (decide_eq_true ha) (decide_eq_true hp)

/-! ## The undefined opcodes (R376; 60_exceptions.md R430, R431) -/

theorem decode_illegal {op : Byte} {i : Instr} (h : (op, i) ∈ illegals) : decode [op] = .ok (i, []) := by
  have hall : ∀ p ∈ illegals, decode [p.1] = .ok (p.2, []) := by decide
  exact hall (op, i) h

/-- Settles O33: every undefined opcode has its own row, which raises the fault, and a faulted state has no step. -/
theorem undefinedOpcodesFault : Obligations.UndefinedOpcodesFault := fun _ _ s h =>
  ⟨decode_illegal h, exec_illegal s h, step_fault rfl⟩

end Sys2Proof.Machine

/-! PROOF. A machine cycle's frame (60_exceptions.md R401, R402): the pixel port's events, the requests it makes, and what it
leaves. -/

namespace Sys2Proof.Machine

open Sys2Proof.Claims

/-! ## Requests -/

@[simp] theorem getLsbD_mask (l : Line) (k : Nat) : l.mask.getLsbD k = decide (k = l.index) := by
  by_cases hk : k < 5
  · interval_cases k <;> cases l <;> rfl
  · have hl : l.index < 5 := by cases l <;> decide
    have hne : k ≠ l.index := by omega
    rw [BitVec.getLsbD_of_ge _ _ (Nat.not_lt.1 hk), decide_eq_false hne]

/-- A request sets the bit of its line and no other. -/
theorem getLsbD_requestIf (q : Irq) (b : Bool) (l : Line) (k : Nat) :
    (q.requestIf b l).ifr.getLsbD k = (q.ifr.getLsbD k || (b && decide (k = l.index))) := by
  cases b
  · simp [Irq.requestIf]
  · simp [Irq.requestIf, Irq.request]

/-! ## The pixel port in a machine cycle -/

/-- What the events of the pixel port leave unchanged, and the two lines they may request. -/
theorem pixelEvents_frame (e : Events) (s : State) :
    (pixelEvents e s).ppu = s.ppu ∧ (pixelEvents e s).timer = s.timer ∧
    ∃ stat, (pixelEvents e s).irq = (s.irq.requestIf e.vblankEntry .vblank).requestIf stat .stat := by
  unfold pixelEvents
  extract_lets t u
  have hu : u.ppu = s.ppu ∧ u.timer = s.timer ∧ u.irq = s.irq.requestIf e.vblankEntry .vblank := by
    apply iteInduction (motive := fun x : State => x.ppu = s.ppu ∧ x.timer = s.timer ∧ x.irq = t.irq)
    · intro _
      rw [hblankBlock_eq]
      exact ⟨rfl, rfl, rfl⟩
    · exact fun _ => ⟨rfl, rfl, rfl⟩
  obtain ⟨hppu, htimer, hirq⟩ := hu
  rw [← hppu, ← htimer, ← hirq]
  split
  · exact ⟨rfl, rfl, _, rfl⟩
  · exact ⟨rfl, rfl, false, rfl⟩

/-- The units of a machine cycle that a later proof names: the pixel port and the timer move by their ticks, and the lines
requested are those of the timer, of vertical blank and of the status line. -/
theorem cycle_units (s : State) :
    (cycle s).ppu = (s.ppu.advance (ticksPerCycle s.cpu.speed)).1 ∧ (cycle s).timer = s.timer.advance 4 ∧
    ∃ stat, (cycle s).irq =
      ((s.irq.requestIf s.timer.reloadPending .timer).requestIf
        (s.ppu.advance (ticksPerCycle s.cpu.speed)).2.vblankEntry .vblank).requestIf stat .stat :=
  pixelEvents_frame (s.ppu.advance (ticksPerCycle s.cpu.speed)).2
    { soundAdvance (ticksPerCycle s.cpu.speed) (timerAdvance timerTicks s) with
      ppu := (s.ppu.advance (ticksPerCycle s.cpu.speed)).1 }

theorem cycle_ppu (s : State) : (cycle s).ppu = (s.ppu.advance (ticksPerCycle s.cpu.speed)).1 := (cycle_units s).1

theorem cycle_timer (s : State) : (cycle s).timer = s.timer.advance 4 := (cycle_units s).2.1

/-- The bits of IF after a machine cycle. -/
theorem getLsbD_cycle_ifr (s : State) (k : Nat) : ∃ stat, (cycle s).irq.ifr.getLsbD k =
    (s.irq.ifr.getLsbD k || (s.timer.reloadPending && decide (k = 2)) ||
      ((s.ppu.advance (ticksPerCycle s.cpu.speed)).2.vblankEntry && decide (k = 0)) || (stat && decide (k = 1))) := by
  obtain ⟨-, -, stat, hirq⟩ := cycle_units s
  refine ⟨stat, ?_⟩
  rw [hirq]
  simp only [getLsbD_requestIf]
  rfl

/-- A machine cycle clears no pending bit. -/
theorem cycle_keeps_ifr {s : State} {k : Nat} (h : s.irq.ifr.getLsbD k = true) : (cycle s).irq.ifr.getLsbD k = true := by
  obtain ⟨stat, hk⟩ := getLsbD_cycle_ifr s k
  simp [hk, h]

/-- The end of a scanline resets the dot, and enters vertical blank from scanline 143 only (R552, R554). -/
theorem Ppu.endLine_spec (p : Ppu) : p.endLine.1.dot = 0 ∧ p.endLine.2.vblankEntry = decide (p.ly = 143) := by
  have hv : visibleLines = 144 := rfl
  unfold Ppu.endLine
  split
  · exact ⟨rfl, decide_eq_decide.2 (by omega)⟩
  · have hne : decide (p.ly = 143) = false := decide_eq_false (by omega)
    split <;> exact ⟨rfl, hne.symm⟩

/-- A tick that does not end the scanline moves the dot by one and enters no vertical blank. -/
theorem Ppu.tick_inside {p : Ppu} (h : p.dot + 1 ≠ dotsPerLine) :
    p.tick.1.dot = p.dot + 1 ∧ p.tick.1.ly = p.ly ∧ p.tick.2.vblankEntry = false := by
  unfold Ppu.tick
  dsimp only
  rw [if_neg h]
  split
  · exact ⟨rfl, rfl, rfl⟩
  · split <;> exact ⟨rfl, rfl, rfl⟩

theorem Ppu.tick_end {p : Ppu} (h : p.dot + 1 = dotsPerLine) : p.tick = { p with dot := p.dot + 1 }.endLine := if_pos h

/-- In less than a scanline vertical blank is entered exactly by passing the end of scanline 143. -/
theorem Ppu.vblankEntry_advance {p : Ppu} (hdot : p.dot < 456) {n : Nat} (hn : n ≤ 456) :
    (p.advance n).2.vblankEntry = decide (p.ly = 143 ∧ 456 ≤ p.dot + n) := by
  induction n generalizing p with
  | zero => exact (decide_eq_false (by omega)).symm
  | succ n ih =>
    have hline : dotsPerLine = 456 := rfl
    have hsplit : (p.advance (n + 1)).2.vblankEntry = (p.tick.2.vblankEntry || (p.tick.1.advance n).2.vblankEntry) := rfl
    rw [hsplit]
    by_cases hend : p.dot + 1 = dotsPerLine
    · obtain ⟨h0, hv⟩ := { p with dot := p.dot + 1 }.endLine_spec
      rw [← Ppu.tick_end hend] at h0 hv
      have hlater : ¬ (p.tick.1.ly = 143 ∧ 456 ≤ p.tick.1.dot + n) := by omega
      rw [ih (by omega) (by omega), hv, decide_eq_false hlater, Bool.or_false]
      exact decide_eq_decide.2 (by dsimp only; omega)
    · obtain ⟨h1, hly, hv⟩ := Ppu.tick_inside hend
      rw [ih (by omega) (by omega), hv, Bool.false_or]
      exact decide_eq_decide.2 (by omega)

/-! ## The timer's own registers -/

/-- An increment leaves the divider, the modulo and the control register. -/
theorem Timer.increment_regs (t : Timer) :
    t.increment.div16 = t.div16 ∧ t.increment.tma = t.tma ∧ t.increment.tac = t.tac := by
  unfold Timer.increment
  split <;> exact ⟨rfl, rfl, rfl⟩

theorem Timer.incrementOnFall_regs (t : Timer) (x y : Bool) :
    (t.incrementOnFall x y).div16 = t.div16 ∧ (t.incrementOnFall x y).tma = t.tma ∧
    (t.incrementOnFall x y).tac = t.tac := by
  unfold Timer.incrementOnFall
  split
  · exact t.increment_regs
  · exact ⟨rfl, rfl, rfl⟩

theorem Timer.reload_regs (t : Timer) : t.reload.tma = t.tma ∧ t.reload.tac = t.tac := by
  unfold Timer.reload
  split <;> exact ⟨rfl, rfl⟩

theorem Timer.advance_regs (n : Nat) (t : Timer) :
    (t.advance n).div16 = t.div16 + BitVec.ofNat 16 n ∧ (t.advance n).tma = t.tma ∧ (t.advance n).tac = t.tac := by
  obtain ⟨hdiv, htma, htac⟩ := Timer.incrementOnFall_regs { t.reload with div16 := t.div16 + BitVec.ofNat 16 n }
    (timerSignal t.tac t.div16) (timerSignal t.tac (t.div16 + BitVec.ofNat 16 n))
  exact ⟨hdiv, htma.trans t.reload_regs.1, htac.trans t.reload_regs.2⟩

/-! ## The frame -/

theorem cycle_ram (s : State) : { (cycle s).ram with vram := s.ram.vram } = s.ram :=
  still_congr (fun t : State => { t.ram with vram := s.ram.vram }) (cycle_still s) fun _ => rfl

theorem cycle_bus (s : State) : { (cycle s).bus with statLine := s.bus.statLine } = s.bus :=
  still_congr (fun t : State => { t.bus with statLine := s.bus.statLine }) (cycle_still s) fun _ => rfl

theorem cycle_ram_idle {s : State} (h : s.hdma.active = false) : (cycle s).ram = s.ram := by
  rw [← cycle_ram s, ← cycle_vram h]

theorem cycle_ppu_regs (s : State) :
    { (cycle s).ppu with mode := s.ppu.mode, dot := s.ppu.dot, ly := s.ppu.ly } = s.ppu := by
  rw [cycle_ppu]
  exact Ppu.advance_regs _ _

theorem ticksPerCycle_eq (v : Speed) : ticksPerCycle v = if v = .normal then 4 else 2 := by cases v <;> rfl

/-- Settles O39: what is left when the clocked units are erased, and the requests bit by bit. -/
theorem cycleMovesOnlyTheClockedUnits : Obligations.CycleMovesOnlyTheClockedUnits := by
  intro s
  obtain ⟨-, htma, htac⟩ := s.timer.advance_regs 4
  rw [← cycle_timer] at htma htac
  refine ⟨cycle_cpu s, cycle_cfg s, cycle_ie s, cycle_joypad s, cycle_serial s, cycle_cycles s, cycle_bus s, cycle_ram s,
    fun h => ⟨cycle_ram_idle h, cycle_hdma h⟩, cycle_cart s, cycle_ppu_regs s, htma, htac, fun _ => cycle_keeps_ifr,
    fun k hk => ?others, fun hframe => ?vblank, place_cycle s,
    fun a c hc h => busRead_congr hc (place_cycle s a) (memoryOf_cycle h)⟩
  case others =>
    obtain ⟨stat, h⟩ := getLsbD_cycle_ifr s k
    obtain rfl | rfl := hk
    · simpa using h
    · simpa using h
  case vblank =>
    have hn : (if s.cpu.speed = .normal then 4 else 2) ≤ 456 := by split <;> omega
    obtain ⟨stat, h⟩ := getLsbD_cycle_ifr s 0
    rw [ticksPerCycle_eq, Ppu.vblankEntry_advance hframe.dot hn] at h
    simpa using h

end Sys2Proof.Machine

/-! PROOF. The parts of a step (60_exceptions.md R400): the waits, the interrupt check, the dispatch and the return from it. -/

namespace Sys2Proof.Machine

open Sys2Proof.Claims

/-! ## The step by its parts (R400, R420 to R427) -/

theorem step_of_waits {s t : State} (hf : s.cpu.fault = none) (hw : wake s = .waits t) : step s = .next t := by
  simp only [step, hf, hw]

theorem step_of_goes {s t : State} (hf : s.cpu.fault = none) (hw : wake s = .goes t) : step s = run t := by
  simp only [step, hf, hw]

theorem wake_active {s : State} (h : s.cpu.status = .active) : wake s = .goes (joypadEvaluate s) := by
  simp only [wake, h]

theorem wake_paused {s : State} (h : s.cpu.status = .paused) : wake s = .waits s := by
  simp only [wake, h]

theorem wake_stopped {s : State} (h : s.cpu.status = .stopped) :
    wake s = if s.joypad.lines ≠ 0b1111 then .goes { joypadEvaluate s with cpu.status := .active }
      else .waits (joypadEvaluate s) := by
  simp only [wake, h]
  rfl

theorem wake_halted {s : State} (h : s.cpu.status = .halted) :
    wake s = if (cycle (joypadEvaluate s)).irq.pending ≠ 0
      then .goes { cycle (joypadEvaluate s) with cpu.status := .active } else .waits (cycle (joypadEvaluate s)) := by
  simp only [wake, h]
  rfl

/-- Settles O8: each status by its own wake. -/
theorem waitingSteps : Obligations.WaitingSteps := by
  intro s hf
  refine ⟨fun hs => step_of_waits hf (wake_paused hs), fun hs => ⟨fun hl => ?idle, fun hl => ?pressed⟩,
    fun hs => ⟨fun hp => ?waits, fun hp => ?wakes⟩⟩
  case idle => exact step_of_waits hf ((wake_stopped hs).trans (if_neg (not_not.2 hl)))
  case pressed => exact step_of_goes hf ((wake_stopped hs).trans (if_pos hl))
  case waits => exact step_of_waits hf ((wake_halted hs).trans (if_neg (not_not.2 hp)))
  case wakes => exact step_of_goes hf ((wake_halted hs).trans (if_pos hp))

/-- The fetch answers the instruction that its bytes decode to. -/
theorem fetchInstr_of_decode {s : State} {i : Instr}
    (h : decode ((fetch8 s).1 :: (fetchBytes (primaryRow (fetch8 s).1).more (fetch8 s).2).1) = .ok (i, [])) :
    fetchInstr s = (.ok i, (fetchBytes (primaryRow (fetch8 s).1).more (fetch8 s).2).2) := by
  simp only [fetchInstr, h]
  rfl

/-- Settles O5: an Active step goes straight to the check, the fetch and the instruction. -/
theorem stepRunsTheDecodedInstruction : Obligations.StepRunsTheDecodedInstruction := by
  intro s i hf hs ready first others hdecode
  have hfetch : fetchInstr ready = (.ok i, others.2) := fetchInstr_of_decode hdecode
  calc step s = run (joypadEvaluate s) := step_of_goes hf (wake_active hs)
    _ = exec i others.2 := by simp only [run, hfetch, ready]

/-! ## The interrupt check (R404, R410) -/

theorem Line.index_lt (l : Line) : l.index < 5 := by cases l <;> decide

/-- A line is pending when its bits in IF and in IE are set. -/
theorem Irq.getLsbD_pending (q : Irq) {k : Nat} (hk : k < 5) :
    q.pending.getLsbD k = (q.ifr.getLsbD k && q.ie.getLsbD k) := by
  simp [Irq.pending, hk]

/-- The bit with no set bit below it is the lowest line. -/
theorem lowestLine_eq_some {p : BitVec 5} {l : Line} (h : p.getLsbD l.index = true)
    (hlow : ∀ k, k < l.index → p.getLsbD k = false) : lowestLine p = some l := by
  revert p
  cases l <;> decide

section
variable {s : State} (hd : s.cpu.eiDelay = false)
include hd

theorem interruptCheck_disabled (hi : s.cpu.ime = false) : interruptCheck s = s := by
  simp [interruptCheck, hd, hi]

theorem interruptCheck_enabled (hi : s.cpu.ime = true) :
    interruptCheck s = (lowestLine s.irq.pending).elim s (dispatch · s) := by
  simp only [interruptCheck, hd, hi, Bool.false_eq_true, if_false, if_true]
  cases lowestLine s.irq.pending <;> rfl

end

/-- Settles O10: the check dispatches the lowest pending line. -/
theorem interruptCheckServesTheLowestLine : Obligations.InterruptCheckServesTheLowestLine := by
  intro s
  refine ⟨interruptCheck_disabled, fun hd hi => ⟨fun hp => ?none, fun l hif hie hlow => ?lowest⟩⟩
  case none =>
    have hnone : lowestLine s.irq.pending = none := by
      rw [Irq.pending, hp]
      rfl
    rw [interruptCheck_enabled hd hi, hnone, Option.elim_none]
  case lowest =>
    have hset : s.irq.pending.getLsbD l.index = true := by
      rw [s.irq.getLsbD_pending l.index_lt, hif, hie, Bool.and_self]
    have hclear (k : Nat) (hk : k < l.index) : s.irq.pending.getLsbD k = false := by
      rw [s.irq.getLsbD_pending (hk.trans l.index_lt), ← Bool.not_eq_true, Bool.and_eq_true]
      exact hlow k hk
    rw [interruptCheck_enabled hd hi, lowestLine_eq_some hset hclear, Option.elim_some]

/-! ## The dispatch (R405 to R409) -/

/-- The enable-register collision: the high byte of pc lands on IE and masks the line (R408). -/
abbrev Line.Collides (l : Line) (s : State) : Prop := s.cpu.sp = 0 ∧ (hi s.cpu.pc).getLsbD l.index = false

/-- A dispatch up to its first push: the master enable is clear and two cycles have passed. -/
def dispatchBegun (s : State) : State := cycle (cycle { s with cpu.ime := false })

/-- A dispatch up to its second push. -/
def returnPushed (s : State) : State := push16 s.cpu.pc (dispatchBegun s)

/-- What a dispatch sets after its pushes: the vector and the pending bit, or 0x0000 alone where it is aborted. -/
def dispatchSet (l : Line) (aborted : Bool) (w : State) : State :=
  if aborted then { w with cpu.pc := 0x0000 } else { w with cpu.pc := l.vector, irq := w.irq.clear l }

@[simp] theorem dispatchBegun_cpu (s : State) : (dispatchBegun s).cpu = { s.cpu with ime := false } := by
  simp [dispatchBegun]

@[simp] theorem dispatchBegun_cfg (s : State) : (dispatchBegun s).cfg = s.cfg := by simp [dispatchBegun]

@[simp] theorem dispatchBegun_cycles (s : State) : (dispatchBegun s).cycles = s.cycles + 2 := by simp [dispatchBegun]

/-- A byte pushed from sp 0 lands on IE. -/
theorem pushByte_onto_ie {s : State} (h : s.cpu.sp = 0) (v : Byte) :
    pushByte v s = { cycle { s with cpu.sp := 0xFFFF } with irq.ie := v } := by
  unfold pushByte memWrite
  rw [h]
  rfl

/-- The test between the pushes finds the collision: sp has moved to the address of IE exactly if it was 0. -/
theorem aborted_eq (l : Line) (s : State) :
    (decide ((pushByte (hi s.cpu.pc) (dispatchBegun s)).cpu.sp = 0xFFFF) &&
      !(pushByte (hi s.cpu.pc) (dispatchBegun s)).irq.ie.getLsbD l.index) = decide (l.Collides s) := by
  by_cases h0 : s.cpu.sp = 0
  · have hbegun : (dispatchBegun s).cpu.sp = 0 := by rw [dispatchBegun_cpu, h0]
    have hsp : (pushByte (hi s.cpu.pc) (dispatchBegun s)).cpu.sp = 0xFFFF := by
      rw [pushByte_sp, hbegun]
      rfl
    have hie : (pushByte (hi s.cpu.pc) (dispatchBegun s)).irq.ie = hi s.cpu.pc := by rw [pushByte_onto_ie hbegun]
    simp only [hsp, hie, h0, Line.Collides, true_and, decide_true, Bool.true_and, Bool.decide_eq_false]
  · have hsp : (pushByte (hi s.cpu.pc) (dispatchBegun s)).cpu.sp ≠ 0xFFFF := by
      rw [pushByte_sp, dispatchBegun_cpu]
      bv_omega
    rw [decide_eq_false hsp, decide_eq_false fun h => h0 h.1, Bool.false_and]

/-- A dispatch by its parts. -/
theorem dispatch_eq (l : Line) (s : State) :
    dispatch l s =
      if s.cfg.irqTail then cycle (dispatchSet l (decide (l.Collides s)) (returnPushed s))
      else dispatchSet l (decide (l.Collides s)) (returnPushed s) := by
  have hpc : (dispatchBegun s).cpu.pc = s.cpu.pc := by rw [dispatchBegun_cpu]
  have hparts : dispatch l s =
      let w := push16 (dispatchBegun s).cpu.pc (dispatchBegun s)
      let p := pushByte (hi (dispatchBegun s).cpu.pc) (dispatchBegun s)
      let x := dispatchSet l (decide (p.cpu.sp = 0xFFFF) && !p.irq.ie.getLsbD l.index) w
      if x.cfg.irqTail then cycle x else x := rfl
  have hcfg : (dispatchSet l (decide (l.Collides s)) (returnPushed s)).cfg = s.cfg := by
    have hw : (returnPushed s).cfg = s.cfg := by simp [returnPushed, push16]
    rw [← hw]
    exact iteInduction (motive := fun x : State => x.cfg = (returnPushed s).cfg) (fun _ => rfl) fun _ => rfl
  rw [hparts, hpc]
  dsimp only
  rw [aborted_eq]
  change (if (dispatchSet l (decide (l.Collides s)) (returnPushed s)).cfg.irqTail then _ else _) = _
  rw [hcfg]
  rfl

/-! ### The processor -/

@[simp] theorem dispatchSet_cpu (l : Line) (aborted : Bool) (w : State) :
    (dispatchSet l aborted w).cpu = { w.cpu with pc := if aborted then 0x0000 else l.vector } := by cases aborted <;> rfl

@[simp] theorem dispatchSet_cycles (l : Line) (aborted : Bool) (w : State) :
    (dispatchSet l aborted w).cycles = w.cycles := by cases aborted <;> rfl

/-- A word pushed: sp, and `speedArmed` if a byte landed on KEY1. -/
theorem push16_cpu (v : Word) (s : State) :
    ∃ armed, (push16 v s).cpu = { s.cpu with sp := s.cpu.sp - 2, speedArmed := armed } := by
  have hbyte (w : Byte) (u : State) :
      (pushByte w u).cpu = { u.cpu with sp := u.cpu.sp - 1, speedArmed := (pushByte w u).cpu.speedArmed } :=
    congrArg (fun p : Cpu => { p with speedArmed := (pushByte w u).cpu.speedArmed }) (pushByte_cpu w u)
  refine ⟨(push16 v s).cpu.speedArmed, ?_⟩
  rw [push16, hbyte (lo v), hbyte (hi v), BitVec.sub_sub]
  rfl

@[simp] theorem returnPushed_cycles (s : State) : (returnPushed s).cycles = s.cycles + 4 := by
  simp [returnPushed, push16]

/-- A dispatch clears the master enable, moves sp by two and sets pc; a push onto KEY1 may write `speedArmed`. -/
theorem dispatch_cpu (l : Line) (s : State) : ∃ armed, (returnPushed s).cpu.speedArmed = armed ∧ (dispatch l s).cpu =
    { s.cpu with
      ime := false, sp := s.cpu.sp - 2, pc := if l.Collides s then 0x0000 else l.vector, speedArmed := armed } := by
  obtain ⟨armed, hpush⟩ := push16_cpu s.cpu.pc (dispatchBegun s)
  rw [← returnPushed, dispatchBegun_cpu] at hpush
  refine ⟨armed, by rw [hpush], ?_⟩
  have hset := dispatchSet_cpu l (decide (l.Collides s)) (returnPushed s)
  rw [hpush] at hset
  simp only [decide_eq_true_eq] at hset
  rw [dispatch_eq]
  split
  · rw [cycle_cpu, hset]
  · exact hset

theorem dispatch_cycles (l : Line) (s : State) :
    (dispatch l s).cycles = s.cycles + (if s.cfg.irqTail then 5 else 4) := by
  rw [dispatch_eq]
  split
  · simp
  · simp

/-! ### The pending bit -/

theorem Irq.getLsbD_clear_self (q : Irq) (l : Line) : (q.clear l).ifr.getLsbD l.index = false := by
  simp [Irq.clear, l.index_lt]

/-- A byte pushed from sp 0xFFFF lands in high RAM. -/
theorem pushByte_onto_hram {s : State} (h : s.cpu.sp = 0xFFFF) (v : Byte) :
    (pushByte v s).irq = (cycle { s with cpu.sp := 0xFFFE }).irq := by
  unfold pushByte memWrite
  rw [h]
  rfl

/-- A dispatch from sp 0 pushes onto IE and into high RAM, and clears no pending bit. -/
theorem returnPushed_keeps_ifr {s : State} (h0 : s.cpu.sp = 0) {k : Nat} (hk : s.irq.ifr.getLsbD k = true) :
    (returnPushed s).irq.ifr.getLsbD k = true := by
  have hbegun : (dispatchBegun s).cpu.sp = 0 := by rw [dispatchBegun_cpu, h0]
  have hsp : (pushByte (hi s.cpu.pc) (dispatchBegun s)).cpu.sp = 0xFFFF := by
    rw [pushByte_sp, hbegun]
    rfl
  have hkeep : (dispatchBegun s).irq.ifr.getLsbD k = true := cycle_keeps_ifr (cycle_keeps_ifr hk)
  rw [returnPushed, push16, pushByte_onto_hram hsp, pushByte_onto_ie hbegun]
  exact cycle_keeps_ifr (cycle_keeps_ifr (s := { dispatchBegun s with cpu.sp := 0xFFFF }) hkeep)

/-- Settles O11: two cycles, two pushes, and what is set after them. -/
theorem dispatchGoesToTheVector : Obligations.DispatchGoesToTheVector := by
  intro s l t collides
  refine ⟨?cpu, dispatch_cycles l s, fun hc hp => ?aborted, fun hc => ?served⟩
  case cpu =>
    obtain ⟨armed, -, h⟩ := dispatch_cpu l s
    rw [h]
    rfl
  case aborted =>
    have hset : (dispatchSet l (decide (l.Collides s)) (returnPushed s)).irq.ifr.getLsbD l.index = true := by
      rw [decide_eq_true hc]
      exact returnPushed_keeps_ifr hc.1 hp
    simp only [t, dispatch_eq]
    split
    · exact cycle_keeps_ifr hset
    · exact hset
  case served =>
    refine ⟨dispatchSet l (decide (l.Collides s)) (returnPushed s), ?_, dispatch_eq l s⟩
    rw [decide_eq_false hc]
    exact Irq.getLsbD_clear_self _ l

/-! ## The return (R412; 45_control_transfer.md R359) -/

theorem Moves.dispatchSet {A : Word → Prop} {s w : State} (h : Moves A s w) (l : Line) (aborted : Bool) :
    Moves A s (dispatchSet l aborted w) := by
  cases aborted with
  | true => exact h.setPc 0x0000
  | false => exact (h.setPc l.vector).irq (w.irq.clear l)

/-- After the pushes a dispatch writes no memory. -/
theorem dispatch_moves (l : Line) (s : State) : Moves (fun _ => False) (returnPushed s) (dispatch l s) := by
  have hset := (Moves.refl (A := fun _ => False) (s := returnPushed s)).dispatchSet l (decide (l.Collides s))
  rw [dispatch_eq]
  exact hset.cycle.ite hset

/-- IE, at the address below 0, is no memory: a stack in plain memory meets no collision. -/
theorem not_collides_of_plain {s : State} (h : s.Plain (s.cpu.sp - 1)) (l : Line) : ¬ l.Collides s := by
  rintro ⟨h0, -⟩
  obtain ⟨c, hc, -⟩ := h
  rw [h0] at hc
  exact absurd hc nofun

/-- RETI pops pc, moves sp by two and sets the master enable. -/
theorem returnFromInterrupt_cpu (s : State) :
    (returnFromInterrupt s).cpu = { s.cpu with sp := s.cpu.sp + 2, pc := (pop16 s).1, ime := true } := by
  simp only [returnFromInterrupt, popPc, internal_eq, cycle_cpu, pop16_cpu]

section
variable {s : State} (h1 : s.Plain (s.cpu.sp - 1)) (h2 : s.Plain (s.cpu.sp - 2)) (hs : s.hdma.active = false)
include h1 h2 hs

/-- The pushes of a dispatch on a stack in plain memory: no register but sp and the master enable has changed, and the return
address stands on the stack. -/
theorem returnPushed_of_plain :
    (returnPushed s).cpu = { s.cpu with ime := false, sp := s.cpu.sp - 2 } ∧ (returnPushed s).hdma.active = false ∧
    (∀ a, (returnPushed s).place a = s.place a) ∧
    busRead (returnPushed s) (s.cpu.sp - 2) = lo s.cpu.pc ∧ busRead (returnPushed s) (s.cpu.sp - 1) = hi s.cpu.pc := by
  have hmoves : Moves (fun _ => False) s (dispatchBegun s) := (Moves.refl.regs { s.cpu with ime := false }).cycle.cycle
  have hbegun := hmoves.keepsReads hs nofun
  have hsp : s.cpu.sp = (dispatchBegun s).cpu.sp := by rw [dispatchBegun_cpu]
  rw [hsp] at h1 h2
  obtain ⟨hcpu, hidle, hplace, hlow, hhigh⟩ :=
    push16_of_plain (h1.congr (hbegun.place _)) hbegun.idle (h2.congr (hbegun.place _)) s.cpu.pc
  refine ⟨?_, hidle, fun a => (hplace a).trans (hbegun.place a), ?_, ?_⟩
  · rw [returnPushed, hcpu, dispatchBegun_cpu]
  · rw [hsp]
    exact hlow
  · rw [hsp]
    exact hhigh

/-- The same after the whole dispatch, with pc at the vector. -/
theorem dispatch_of_plain (l : Line) :
    (dispatch l s).cpu = { s.cpu with ime := false, sp := s.cpu.sp - 2, pc := l.vector } ∧
    (dispatch l s).hdma.active = false ∧ (∀ a, (dispatch l s).place a = s.place a) ∧
    busRead (dispatch l s) (s.cpu.sp - 2) = lo s.cpu.pc ∧ busRead (dispatch l s) (s.cpu.sp - 1) = hi s.cpu.pc := by
  obtain ⟨hpush, hidle, hplace, hlow, hhigh⟩ := returnPushed_of_plain h1 h2 hs
  obtain ⟨armed, harmed, hcpu⟩ := dispatch_cpu l s
  have hmoves := dispatch_moves l s
  have hkeeps := hmoves.keepsReads hidle nofun
  refine ⟨?_, hkeeps.idle, fun a => (hkeeps.place a).trans (hplace a), ?_, ?_⟩
  · rw [hpush] at harmed
    rw [hcpu, if_neg (not_collides_of_plain h1 l), ← harmed]
  · rw [hmoves.busRead_of_no_write hidle (h2.congr (hplace _)), hlow]
  · rw [hmoves.busRead_of_no_write hidle (h1.congr (hplace _)), hhigh]

end

/-- Settles O12: the return address still stands on the stack, and the dispatch changed sp, pc and the master enable only. -/
theorem retiResumesAfterADispatch : Obligations.RetiResumesAfterADispatch := by
  intro s l h1 h2 hs
  refine ⟨returnFromInterrupt (dispatch l s), rfl, ?_⟩
  obtain ⟨hcpu, hidle, hplace, hlow, hhigh⟩ := dispatch_of_plain h1 h2 hs l
  have hsp : (dispatch l s).cpu.sp = s.cpu.sp - 2 := by rw [hcpu]
  have hnext : (dispatch l s).cpu.sp + 1 = s.cpu.sp - 1 := by
    rw [hsp]
    bv_omega
  have hpop := pop16_of_plain (hsp ▸ h2.congr (hplace _)) (hnext ▸ h1.congr (hplace _)) hidle
  rw [hnext, hsp, hlow, hhigh, word_hi_lo] at hpop
  rw [returnFromInterrupt_cpu, hpop, hcpu, BitVec.sub_add_cancel]

end Sys2Proof.Machine

/-! PROOF. The timer (61_timer_and_sound.md R461 to R470): the falling edges of the selected bit, and the register writes. -/

namespace Sys2Proof.Machine

open Sys2Proof.Claims

/-! ## The edge signal (R462) -/

theorem selBit_eq (tac : BitVec 3) : selBit tac = selectedBit (tac.toNat % 4) := by
  revert tac
  decide

/-- A bit of the divider, as a number. -/
theorem getLsbD_eq_div (d : Word) (b : Nat) : d.getLsbD b = decide (d.toNat / 2 ^ b % 2 = 1) := by
  rw [← BitVec.testBit_toNat, Nat.testBit_eq_decide_div_mod_eq]

/-- A bit that can be selected falls in four ticks exactly if it carries out. -/
theorem bit_falls_iff (tac : BitVec 3) (d : Word) :
    (d.getLsbD (selBit tac) = true ∧ (d + BitVec.ofNat 16 4).getLsbD (selBit tac) = false) ↔
      fallsInFour (selectedBit (tac.toNat % 4)) d := by
  have hd := d.isLt
  have hsum : (d + BitVec.ofNat 16 4).toNat = (d.toNat + 4) % 65536 := BitVec.toNat_add d 4
  have hbit : selectedBit (tac.toNat % 4) = 9 ∨ selectedBit (tac.toNat % 4) = 3 ∨ selectedBit (tac.toNat % 4) = 5 ∨
      selectedBit (tac.toNat % 4) = 7 := by
    revert tac
    decide
  rw [selBit_eq, getLsbD_eq_div, getLsbD_eq_div, hsum, decide_eq_true_iff, decide_eq_false_iff_not, fallsInFour]
  obtain h | h | h | h := hbit <;> rw [h] <;> omega

/-- The timer's signal falls in the next four ticks. -/
abbrev Timer.Falls (t : Timer) : Prop := t.tac.getLsbD 2 = true ∧ fallsInFour (selectedBit (t.tac.toNat % 4)) t.div16

/-- The signal falls in four ticks exactly if it is enabled and its bit falls. -/
theorem timerSignal_falls_iff (t : Timer) :
    (timerSignal t.tac t.div16 && !timerSignal t.tac (t.div16 + BitVec.ofNat 16 4)) = true ↔ t.Falls := by
  rw [Timer.Falls, ← bit_falls_iff]
  unfold timerSignal
  cases t.tac.getLsbD 2 <;> simp

/-! ## One advance (R461 to R465) -/

theorem Timer.reload_of_pending {t : Timer} (h : t.reloadPending = true) :
    t.reload = { t with tima := t.tma, reloadPending := false } := if_pos h

theorem Timer.reload_of_idle {t : Timer} (h : t.reloadPending = false) : t.reload = t := if_neg (by rw [h]; decide)

theorem Timer.increment_of_full {t : Timer} (h : t.tima = 0xFF) :
    t.increment = { t with tima := 0x00, reloadPending := true } := if_pos h

theorem Timer.increment_of_ne {t : Timer} (h : t.tima ≠ 0xFF) : t.increment = { t with tima := t.tima + 1 } := if_neg h

theorem Timer.advance_of_falls {t : Timer} (h : t.Falls) :
    t.advance 4 = { t.reload with div16 := t.div16 + BitVec.ofNat 16 4 }.increment :=
  if_pos ((timerSignal_falls_iff t).2 h)

theorem Timer.advance_of_not_falls {t : Timer} (h : ¬ t.Falls) :
    t.advance 4 = { t.reload with div16 := t.div16 + BitVec.ofNat 16 4 } :=
  if_neg (mt (timerSignal_falls_iff t).1 h)

/-- Settles O44: with and without a pending reload, and with and without an edge. -/
theorem timerCountsFallingEdges : Obligations.TimerCountsFallingEdges := by
  intro s t falls
  obtain ⟨hdiv, htma, htac⟩ := s.timer.advance_regs 4
  have htimer : t.timer = s.timer.advance 4 := rfl
  have hirq : t.irq = s.irq.requestIf s.timer.reloadPending .timer := rfl
  rw [htimer, hirq]
  refine ⟨hdiv, htma, htac, fun hidle => ?idle, fun hpending => ?pending⟩
  case idle =>
    rw [hidle]
    refine ⟨rfl, fun hf => ?still, fun hf hne => ?counts, fun hf hfull => ?overflows⟩
    case still =>
      rw [Timer.advance_of_not_falls hf, Timer.reload_of_idle hidle]
      exact ⟨rfl, hidle⟩
    case counts =>
      rw [Timer.advance_of_falls hf, Timer.reload_of_idle hidle, Timer.increment_of_ne (by exact hne)]
      exact ⟨rfl, hidle⟩
    case overflows =>
      rw [Timer.advance_of_falls hf, Timer.reload_of_idle hidle, Timer.increment_of_full (by exact hfull)]
      exact ⟨rfl, rfl⟩
  case pending =>
    rw [hpending]
    refine ⟨rfl, fun hf => ?_⟩
    rw [Timer.advance_of_not_falls hf, Timer.reload_of_pending hpending]
    exact ⟨rfl, rfl⟩

/-! ## The registers (R466 to R468, R470) -/

theorem fsBit_eq (v : Speed) (d : Word) : fsBit v d = if v = .normal then d.getLsbD 12 else d.getLsbD 13 := by
  cases v <;> rfl

/-- Settles O45: a write to DIV or TAC makes the edge of its change, the other two store. -/
theorem timerRegisterWrites : Obligations.TimerRegisterWrites := by
  intro s v signal counted seqBit cleared selected
  have hsignal (tac : BitVec 3) : timerSignal tac s.timer.div16 = signal tac := by
    simp only [timerSignal, selBit_eq, signal]
  refine ⟨(busWrite_ioAddr s v 0x04).trans ?div, busWrite_ioAddr s v 0x05, busWrite_ioAddr s v 0x06,
    (busWrite_ioAddr s v 0x07).trans ?tac⟩
  case div =>
    have hdiv : ioWrite 0x04 v s = divReset s := rfl
    rw [hdiv, divReset, fsBit_eq, hsignal, Timer.incrementOnFall, Sound.stepOnFall]
    simp only [Bool.not_false, Bool.and_true]
    rfl
  case tac =>
    have htac : ioWrite 0x07 v s = { s with timer := s.timer.writeTac v } := rfl
    rw [htac, Timer.writeTac, hsignal, hsignal, Timer.incrementOnFall]
    simp only [Bool.and_eq_true, Bool.not_eq_true']
    rfl

end Sys2Proof.Machine

/-! PROOF. The frame of the scanline machine, and a bank select (62_boundary_units.md). -/

namespace Sys2Proof.Machine

open Sys2Proof.Claims

/-! ## The frame (R552, R555) -/

/-- The end of a scanline moves to the next one, and from the last to scanline 0. -/
theorem Ppu.endLine_ly (p : Ppu) : p.endLine.1.ly = if p.ly + 1 = 154 then 0 else p.ly + 1 := by
  have hv : visibleLines = 144 := rfl
  have hl : linesPerFrame = 154 := rfl
  unfold Ppu.endLine
  split
  · exact (if_neg (by omega)).symm
  · rw [hl]
    split <;> rfl

/-- A tick moves the position by one dot modulo the frame. -/
theorem framePos_tick {p : Ppu} (h : p.InFrame) : framePos p.tick.1 = (framePos p + 1) % 70224 := by
  have hdot : p.dot < 456 := h.dot
  have hly : p.ly < 154 := h.ly
  unfold framePos
  by_cases hend : p.dot + 1 = dotsPerLine
  · have hlast : p.dot + 1 = 456 := hend
    rw [Ppu.tick_end hend, (Ppu.endLine_spec _).1, Ppu.endLine_ly]
    dsimp only
    split <;> omega
  · obtain ⟨hnext, hsame, -⟩ := Ppu.tick_inside hend
    have hinside : p.dot + 1 ≠ 456 := hend
    rw [hnext, hsame]
    omega

theorem framePos_advance {p : Ppu} (h : p.InFrame) (n : Nat) : framePos (p.advance n).1 = (framePos p + n) % 70224 := by
  induction n generalizing p with
  | zero =>
    have hdot : p.dot < 456 := h.dot
    have hly : p.ly < 154 := h.ly
    have hpos : framePos p < 70224 := by
      unfold framePos
      omega
    rw [Ppu.advance, Nat.add_zero, Nat.mod_eq_of_lt hpos]
  | succ n ih =>
    have hstep : framePos (p.advance (n + 1)).1 = (framePos p.tick.1 + n) % 70224 := ih h.tick
    rw [hstep, framePos_tick h]
    omega

/-- An advance moves the position and the mode only. -/
theorem Ppu.advance_eq (n : Nat) (p : Ppu) :
    (p.advance n).1 = { p with mode := (p.advance n).1.mode, dot := (p.advance n).1.dot, ly := (p.advance n).1.ly } :=
  congrArg (fun q : Ppu => { q with mode := (p.advance n).1.mode, dot := (p.advance n).1.dot, ly := (p.advance n).1.ly })
    (Ppu.advance_regs n p)

/-- Settles O54: each tick moves one dot, and the mode follows the position. -/
theorem frameIs70224Dots : Obligations.FrameIs70224Dots := fun n p h =>
  ⟨h.advance n, framePos_advance h n, Ppu.advance_eq n p⟩

/-! ## The scanline scenario (R556) -/

/-- The position tells scanline, dot and mode. -/
theorem Ppu.InFrame.of_framePos {p : Ppu} (h : p.InFrame) {n : Nat} (hn : framePos p = n) :
    p.ly = n / 456 ∧ p.dot = n % 456 ∧ p.mode = modeAt (n / 456) (n % 456) := by
  have hdot : p.dot < 456 := h.dot
  unfold framePos at hn
  have hly : p.ly = n / 456 := by omega
  have hd : p.dot = n % 456 := by omega
  exact ⟨hly, hd, by rw [h.mode, hly, hd]⟩

theorem Ppu.advance_add (m n : Nat) (p : Ppu) : (p.advance (m + n)).1 = ((p.advance m).1.advance n).1 := by
  induction m generalizing p with
  | zero => rw [Nat.zero_add]; rfl
  | succ m ih =>
    rw [Nat.succ_add]
    exact ih p.tick.1

/-- A machine cycle at Normal speed is four ticks. -/
theorem ppuCycles_eq (n : Nat) (p : Ppu) : ppuCycles n p = (p.advance (4 * n)).1 := by
  induction n generalizing p with
  | zero => rfl
  | succ n ih => rw [ppuCycles, ih, ← Ppu.advance_add, Nat.mul_succ, Nat.add_comm]

/-- Settles O55: from the start of a frame the position is the number of dots. -/
theorem scanlineScenario : Obligations.ScanlineScenario := by
  intro p hly hdot hmode
  have hframe : p.InFrame := ⟨by rw [hdot]; decide, by rw [hly]; decide, by rw [hmode, hly, hdot]; rfl⟩
  have hstart : framePos p = 0 := by rw [framePos, hly, hdot]
  have hafter (n : Nat) (hn : n < 70224) := (hframe.advance n).of_framePos (n := n) (by
    rw [framePos_advance hframe, hstart, Nat.zero_add, Nat.mod_eq_of_lt hn])
  obtain ⟨hly80, -, hmode80⟩ := hafter 80 (by decide)
  obtain ⟨-, -, hmode368⟩ := hafter 368 (by decide)
  obtain ⟨hly456, hdot456, hmode456⟩ := hafter 456 (by decide)
  simp only [ppuCycles_eq]
  exact ⟨hmode80, hly80, hmode368, hly456, hdot456, hmode456, hmode80, hmode368, hly456, hmode456⟩

/-! ## The bank select (R564) -/

/-- Settles O56: the write goes to the lower register, which selects bank 5 of 8. -/
theorem bankSelectScenario : Obligations.BankSelectScenario := by
  intro s hk hbanks hhi
  have hwrite : busWrite 0x2100 0x05 s = { s with cart.bankLo := 5 } := by
    have hcart : s.cart.write 0x2100 0x05 = { s.cart with bankLo := 5 } :=
      (Cart.write_rom 0x05 (by decide)).trans ((Cart.writeReg_controller1 0x05 hk).1 rfl)
    rw [busWrite, show regionOf 0x2100 = .rom from rfl, hcart]
  rw [hwrite]
  refine ⟨rfl, hhi, ?_⟩
  have hkey : { s.cart with bankLo := 5 }.romKey 0x4010 = 5 * 0x4000 + 0x10 := by
    rw [Cart.romKey_eq _ (by decide), Cart.highBank_eq]
    simp [hk, hbanks, hhi]
  have hread : busRead { s with cart.bankLo := 5 } 0x4010 =
      cell .rom s.cart.rom ({ s.cart with bankLo := 5 }.romKey 0x4010) := rfl
  rw [hread, hkey]

end Sys2Proof.Machine

/-! PROOF. The cartridge clock (62_boundary_units.md R565): the seconds and their carries, an advance, and the registers. -/

namespace Sys2Proof.Machine

open Sys2Proof.Claims

/-! ## One second -/

/-- A count inside its range moves by one, or carries from the top. -/
theorem countUp_of_lt {top : Nat} {v : Byte} (h : v.toNat < top) (free : Nat) : countUp top v free = (v + 1, false, free) :=
  if_pos h

theorem countUp_of_eq {top : Nat} {v : Byte} (h : v.toNat = top) (free : Nat) : countUp top v free = (0, true, free) :=
  (if_neg (Nat.not_lt.2 h.ge)).trans (if_pos h)

/-- One second of a clock in range, by what carries: nothing, the seconds, the minutes too, the hours too. -/
theorem Clock.second_cases {k : Clock} (h : clockInRange k) (free : Nat) :
    (k.seconds.toNat < 59 ∧ k.second free = ({ k with seconds := k.seconds + 1 }, free)) ∨
    (k.seconds.toNat = 59 ∧ k.minutes.toNat < 59 ∧
      k.second free = ({ k with seconds := 0, minutes := k.minutes + 1 }, free)) ∨
    (k.seconds.toNat = 59 ∧ k.minutes.toNat = 59 ∧ k.hours.toNat < 23 ∧
      k.second free = ({ k with seconds := 0, minutes := 0, hours := k.hours + 1 }, free)) ∨
    (k.seconds.toNat = 59 ∧ k.minutes.toNat = 59 ∧ k.hours.toNat = 23 ∧
      k.second free = ({ k with
        seconds := 0, minutes := 0, hours := 0, day := k.day + 1
        carry := k.carry || decide (k.day.toNat = 511) }, free)) := by
  obtain ⟨hs, hm, hh⟩ := h
  rcases Nat.lt_or_eq_of_le (Nat.le_of_lt_succ hs) with s | s
  · exact .inl ⟨s, by simp [Clock.second, countUp_of_lt s]⟩
  rcases Nat.lt_or_eq_of_le (Nat.le_of_lt_succ hm) with m | m
  · exact .inr (.inl ⟨s, m, by simp [Clock.second, countUp_of_eq s, countUp_of_lt m]⟩)
  rcases Nat.lt_or_eq_of_le (Nat.le_of_lt_succ hh) with h | h
  · exact .inr (.inr (.inl ⟨s, m, h, by simp [Clock.second, countUp_of_eq s, countUp_of_eq m, countUp_of_lt h]⟩))
  · exact .inr (.inr (.inr ⟨s, m, h, by simp [Clock.second, countUp_of_eq s, countUp_of_eq m, countUp_of_eq h]⟩))

theorem clockSeconds_lt {k : Clock} (h : clockInRange k) : clockSeconds k < 512 * 86400 := by
  obtain ⟨hs, hm, hh⟩ := h
  have hd := k.day.isLt
  unfold clockSeconds
  omega

/-- A byte below its top moves by one as a number. -/
theorem byte_succ_toNat {v : Byte} (h : v.toNat < 255) : (v + 1).toNat = v.toNat + 1 := by bv_omega

theorem day_succ_toNat (d : BitVec 9) : (d + 1).toNat = (d.toNat + 1) % 512 := BitVec.toNat_add d 1

/-- One second of a clock in range: the time moves by one modulo 512 days, and the carry bit is set where the days wrap. -/
theorem Clock.second_spec {k : Clock} (h : clockInRange k) (free : Nat) :
    clockInRange (k.second free).1 ∧ clockSeconds (k.second free).1 = (clockSeconds k + 1) % (512 * 86400) ∧
    (k.second free).2 = free ∧
    (k.second free).1.carry = (k.carry || decide (clockSeconds k + 1 = 512 * 86400)) ∧
    (k.second free).1.halt = k.halt := by
  have hzero : (0 : Byte).toNat = 0 := rfl
  have hday := k.day.isLt
  have hnext := day_succ_toNat k.day
  have hcarry (hne : clockSeconds k + 1 ≠ 512 * 86400) :
      k.carry = (k.carry || decide (clockSeconds k + 1 = 512 * 86400)) := by
    rw [decide_eq_false hne, Bool.or_false]
  have hrange := h
  unfold clockInRange at hrange
  obtain ⟨s, e⟩ | ⟨s, m, e⟩ | ⟨s, m, g, e⟩ | ⟨s, m, g, e⟩ := Clock.second_cases h free <;> rw [e] <;>
    simp only [clockInRange, clockSeconds, hzero] at hcarry ⊢
  · have hs := byte_succ_toNat (v := k.seconds) (by omega)
    exact ⟨by omega, by omega, trivial, hcarry (by omega), trivial⟩
  · have hm := byte_succ_toNat (v := k.minutes) (by omega)
    exact ⟨by omega, by omega, trivial, hcarry (by omega), trivial⟩
  · have hh := byte_succ_toNat (v := k.hours) (by omega)
    exact ⟨by omega, by omega, trivial, hcarry (by omega), trivial⟩
  · exact ⟨by omega, by omega, trivial, congrArg (k.carry || ·) (decide_eq_decide.2 (by omega)), trivial⟩

/-! ## An advance -/

/-- Seconds of a clock in range. -/
theorem Clock.secondsPass_spec {k : Clock} (h : clockInRange k) (n free : Nat) :
    clockInRange (Clock.secondsPass n k free).1 ∧ (Clock.secondsPass n k free).2 = free ∧
    clockSeconds (Clock.secondsPass n k free).1 = (clockSeconds k + n) % (512 * 86400) := by
  induction n generalizing k with
  | zero => exact ⟨h, rfl, (Nat.mod_eq_of_lt (clockSeconds_lt h)).symm⟩
  | succ n ih =>
    obtain ⟨hrange, hsec, hfree, -, -⟩ := Clock.second_spec h free
    obtain ⟨hrange', hfree', hsec'⟩ := ih hrange
    rw [Clock.secondsPass, hfree]
    refine ⟨hrange', hfree', ?_⟩
    rw [hsec', hsec]
    omega

theorem Clock.second_halt (k : Clock) (free : Nat) : (k.second free).1.halt = k.halt := by
  unfold Clock.second
  dsimp only
  split
  · split
    · split <;> rfl
    · rfl
  · rfl

theorem Clock.secondsPass_halt (n : Nat) (k : Clock) (free : Nat) : (Clock.secondsPass n k free).1.halt = k.halt := by
  induction n generalizing k free with
  | zero => rfl
  | succ n ih => exact (ih _ _).trans (k.second_halt free)

/-- The clock of a cartridge runs: a Controller-3's, enabled and not halted. -/
abbrev Cart.ClockRuns (c : Cart) : Prop :=
  c.kind = .controller3 ∧ c.hasClock = true ∧ c.ramEnable = true ∧ c.clock.halt = false

theorem Cart.advance_of_not_runs {c : Cart} (h : ¬ c.ClockRuns) (t free : Nat) : c.advance t free = (c, free) :=
  if_neg (by simpa using h)

/-- A running clock lets the whole seconds of its accumulator pass and keeps the rest. -/
theorem Cart.advance_of_runs {c : Cart} (h : c.ClockRuns) (t free : Nat) :
    c.advance t free =
      let r := Clock.secondsPass ((c.clock.subsec + t) / 4194304)
        { c.clock with subsec := (c.clock.subsec + t) % 4194304 } free
      ({ c with clock := r.1 }, r.2) :=
  if_pos (by simpa using h)

/-! ## The clock's registers -/

theorem Cart.write_of_clockReg {c : Cart} {a : Word} (ha : 0x8000 ≤ a.toNat) {r : ClockReg} (hr : c.clockReg = some r)
    (v : Byte) : c.write a v = { c with clock := c.clock.write v r } := by
  rw [Cart.write, if_neg (Nat.not_lt.2 ha), hr]

/-- With the clock present and enabled the select code names the register. -/
theorem Cart.clockReg_of_sel {c : Cart} (hk : c.kind = .controller3) (hclock : c.hasClock = true) (he : c.ramEnable = true) :
    (c.sel = 0x08 → c.clockReg = some .seconds) ∧ (c.sel = 0x09 → c.clockReg = some .minutes) ∧
    (c.sel = 0x0A → c.clockReg = some .hours) ∧ (c.sel = 0x0B → c.clockReg = some .dayLow) ∧
    (c.sel = 0x0C → c.clockReg = some .dayHigh) := by
  simp +contextual [Cart.clockReg, hk, hclock, he]

/-- The day with its low byte, or with its ninth bit, replaced. -/
theorem Clock.write_day (k : Clock) (v : Byte) :
    k.write v .dayLow = { k with day := BitVec.ofNat 9 (k.day.toNat / 256 * 256 + v.toNat) } ∧
    k.write v .dayHigh =
      { k with
        day := BitVec.ofNat 9 (v.toNat % 2 * 256 + k.day.toNat % 256), halt := v.getLsbD 6, carry := v.getLsbD 7 } := by
  have hlow := romBank5_toNat k.day v True
  have hhigh := romBank5_toNat k.day v False
  rw [if_pos trivial, if_pos trivial] at hlow
  rw [if_neg not_false, if_neg not_false] at hhigh
  refine ⟨?_, ?_⟩
  · rw [← hlow, BitVec.ofNat_toNat, BitVec.setWidth_eq]
    rfl
  · rw [← hhigh, BitVec.ofNat_toNat, BitVec.setWidth_eq]
    rfl

/-- Settles O58: one second by its carries, the whole seconds of an advance, and the five registers. -/
theorem clockCountsSeconds : Obligations.ClockCountsSeconds := by
  refine ⟨fun k free h => ?second, fun c t free => ?advance, fun c fill v a hk hclock he ha _ => ?registers⟩
  case second =>
    obtain ⟨hrange, hsec, hfree, hcarry, hhalt⟩ := Clock.second_spec h free
    exact ⟨hrange, hsec, hfree, hcarry, hhalt, k.second_subsec free⟩
  case advance =>
    refine ⟨fun h => Cart.advance_of_not_runs h t free, fun h => ?_⟩
    rw [Cart.advance_of_runs h]
    refine ⟨rfl, Clock.secondsPass_subsec .., Clock.secondsPass_halt .., fun hlt => ?_, fun hrange => ?_⟩
    · rw [Nat.div_eq_of_lt hlt, Nat.mod_eq_of_lt hlt]
      rfl
    · exact Clock.secondsPass_spec (k := { c.clock with subsec := (c.clock.subsec + t) % 4194304 }) hrange _ free
  case registers =>
    have h8 : 0x8000 ≤ a.toNat := by omega
    have haccess {r : ClockReg} (hr : c.clockReg = some r) :
        c.read fill a = c.clock.read fill r ∧ c.write a v = { c with clock := c.clock.write v r } :=
      ⟨Cart.read_of_clockReg h8 hr fill, Cart.write_of_clockReg h8 hr v⟩
    obtain ⟨hseconds, hminutes, hhours, hlow, hhigh⟩ := Cart.clockReg_of_sel hk hclock he
    obtain ⟨hdayLow, hdayHigh⟩ := c.clock.write_day v
    dsimp only
    rw [← hdayLow, ← hdayHigh]
    exact ⟨fun h => haccess (hseconds h), fun h => haccess (hminutes h), fun h => haccess (hhours h),
      fun h => haccess (hlow h), fun h => haccess (hhigh h)⟩

end Sys2Proof.Machine

/-! PROOF. The sound unit (61_timer_and_sound.md): the trigger, the registers and the power, and the frame sequencer. -/

namespace Sys2Proof.Machine

open Sys2Proof.Claims

/-! ## The frame sequencer (R500 to R504) -/

/-- A length clock as the statement counts it. -/
theorem lengthClock_eq (nrk4 : Byte) (length : Nat) (enabled : Bool) :
    lengthClock nrk4 length enabled = lengthAfter nrk4 length enabled := by
  obtain ⟨hc, e⟩ | ⟨hc, e⟩ := lengthClock_cases nrk4 length enabled
  · exact e.trans (if_neg hc).symm
  · have hlast : decide (length - 1 ≠ 0) = decide (length ≠ 1) := decide_eq_decide.2 (by omega)
    rw [hlast] at e
    exact e.trans (if_pos hc).symm

/-- An envelope clock as the statement counts it (R504). -/
theorem envClock_moves (env : Envelope) (v t : BitVec 4) :
    EnvelopeMoves env v t (envClock env v t).1 (envClock env v t).2 := by
  refine ⟨fun h => ?idle, fun h ht => ?counts, fun h ht => ?reloads⟩
  case idle =>
    rw [envClock_idle h]
    exact ⟨rfl, rfl⟩
  case counts =>
    obtain ⟨-, e⟩ | ⟨hlow, -⟩ := envClock_cases h v t
    · rw [e]
      exact ⟨rfl, by bv_omega⟩
    · omega
  case reloads =>
    obtain ⟨hhigh, -⟩ | ⟨-, htimer, hvolume⟩ := envClock_cases h v t
    · omega
    · exact ⟨htimer, hvolume⟩

/-- A period field where 0 counts as 8, in the four bits of a timer. -/
theorem orEight_toNat {n : Nat} (h : n < 8) : (orEight n).toNat = periodOr8 n := by
  interval_cases n <;> rfl

/-! ### The sweep clock (R502) -/

/-- The sweep's timer reloaded from NR10. -/
def Sound.sweepReloaded (u : Sound) : Sound := { u with sweep.timer := orEight (sweepPeriod u.regs.nr10) }

/-- A new frequency stored in the shadow, in NR13 and in NR14. -/
def Sound.sweepStored (f : BitVec 11) (u : Sound) : Sound :=
  { u with
    sweep.shadow := f
    regs.nr13 := f.extractLsb' 0 8
    regs.nr14 := u.regs.nr14.extractLsb' 3 5 ++ f.extractLsb' 8 3 }

/-- What an enabled sweep with a period does when its timer runs out: the calculation, the store, the second calculation. -/
def Sound.sweepAct (u : Sound) : Sound :=
  if u.sweepCalc.1 ≤ 2047 ∧ sweepShift u.sweepCalc.2.regs.nr10 ≠ 0 then
    (u.sweepCalc.2.sweepStored (BitVec.ofNat 11 u.sweepCalc.1)).sweepCalc.2
  else u.sweepCalc.2

/-- The frequency that the next calculation gives. -/
abbrev Sound.newFrequency (u : Sound) : Nat := swept u.sweep.shadow.toNat u.regs.nr10

/-- The sweep is enabled and has a period. -/
abbrev Sound.SweepActs (u : Sound) : Prop := u.sweep.enabled = true ∧ sweepPeriod u.regs.nr10 ≠ 0

section
variable {u : Sound}

theorem Sound.sweepCalc_over (h : u.newFrequency > 2047) :
    u.sweepCalc = (u.newFrequency, { u with ch1.enabled := false }) :=
  congrArg (Prod.mk u.newFrequency) (if_pos h)

theorem Sound.sweepCalc_within (h : u.newFrequency ≤ 2047) : u.sweepCalc = (u.newFrequency, u) :=
  congrArg (Prod.mk u.newFrequency) (if_neg (Nat.not_lt.2 h))

theorem Sound.sweepClock_counts (h : 2 ≤ u.sweep.timer.toNat) :
    u.sweepClock = { u with sweep.timer := u.sweep.timer - 1 } := by
  have hpos : u.sweep.timer.toNat > 0 := by omega
  have hne : u.sweep.timer - 1 ≠ 0 := by bv_omega
  simp only [Sound.sweepClock, hpos, if_true, hne, ne_eq, not_false_eq_true]

/-- A timer that runs out reloads, and the sweep acts. -/
theorem Sound.sweepClock_runsOut (h : u.sweep.timer.toNat ≤ 1) :
    u.sweepClock = if u.SweepActs then u.sweepReloaded.sweepAct else u.sweepReloaded := by
  have hout : (if u.sweep.timer.toNat > 0 then u.sweep.timer - 1 else u.sweep.timer) = 0 := by
    generalize u.sweep.timer = timer at h
    revert timer
    decide
  unfold Sound.sweepClock
  simp only [hout, ne_eq, not_true_eq_false, if_false, Bool.and_eq_true, decide_eq_true_eq]
  rfl

theorem Sound.sweepAct_over (hn : u.newFrequency > 2047) : u.sweepAct = { u with ch1.enabled := false } := by
  rw [Sound.sweepAct, Sound.sweepCalc_over hn]
  exact if_neg fun h => Nat.not_lt.2 h.1 hn

theorem Sound.sweepAct_unshifted (hn : u.newFrequency ≤ 2047) (hs : sweepShift u.regs.nr10 = 0) : u.sweepAct = u := by
  rw [Sound.sweepAct, Sound.sweepCalc_within hn]
  exact if_neg fun h => h.2 hs

/-- The new frequency is stored, and a second calculation, from the new shadow, may disable the channel. -/
theorem Sound.sweepAct_stores (hn : u.newFrequency ≤ 2047) (hs : sweepShift u.regs.nr10 ≠ 0) :
    u.sweepAct =
      { u.sweepStored (BitVec.ofNat 11 u.newFrequency) with
        ch1.enabled := u.ch1.enabled && decide (swept u.newFrequency u.regs.nr10 ≤ 2047) } := by
  have hstored : u.sweepAct = (u.sweepStored (BitVec.ofNat 11 u.newFrequency)).sweepCalc.2 := by
    rw [Sound.sweepAct, Sound.sweepCalc_within hn]
    exact if_pos ⟨hn, hs⟩
  have hnext : (u.sweepStored (BitVec.ofNat 11 u.newFrequency)).newFrequency = swept u.newFrequency u.regs.nr10 := by
    have hshadow : (BitVec.ofNat 11 u.newFrequency).toNat = u.newFrequency := by
      rw [BitVec.toNat_ofNat]
      omega
    exact congrArg (swept · u.regs.nr10) hshadow
  rw [hstored]
  by_cases hover : swept u.newFrequency u.regs.nr10 > 2047
  · rw [Sound.sweepCalc_over (by rwa [hnext]), decide_eq_false (Nat.not_le.2 hover), Bool.and_false]
  · rw [Sound.sweepCalc_within (by rw [hnext]; omega), decide_eq_true (Nat.not_lt.1 hover), Bool.and_true]
    rfl

end

/-- The new frequency as the two registers hold it. -/
theorem storedFrequency_toNat (nr14 : Byte) {n : Nat} (h : n ≤ 2047) :
    (BitVec.ofNat 11 n).toNat = n ∧ ((BitVec.ofNat 11 n).extractLsb' 0 8).toNat = n % 256 ∧
    (nr14.extractLsb' 3 5 ++ (BitVec.ofNat 11 n).extractLsb' 8 3).toNat = nr14.toNat / 8 * 8 + n / 256 := by
  have hf : (BitVec.ofNat 11 n).toNat = n := by
    rw [BitVec.toNat_ofNat]
    omega
  have hr := nr14.isLt
  refine ⟨hf, ?_, ?_⟩
  · rw [BitVec.extractLsb'_toNat, hf]
    rfl
  · rw [BitVec.toNat_append, ← Nat.shiftLeft_add_eq_or_of_lt (BitVec.isLt _), Nat.shiftLeft_eq, BitVec.extractLsb'_toNat,
      BitVec.extractLsb'_toNat, hf, Nat.shiftRight_eq_div_pow, Nat.shiftRight_eq_div_pow]
    omega

/-- From `u` to `t` at most the sweep, the registers and the enable flag of channel 1 have changed. -/
def Sound.SweepFrame (u t : Sound) : Prop :=
  t = { u with sweep := t.sweep, regs := t.regs, ch1.enabled := t.ch1.enabled }

/-- A sweep clock as the statement counts it, and nothing else. -/
theorem Sound.sweepClock_spec (u : Sound) :
    u.SweepFrame u.sweepClock ∧
    SweepMoves u.sweep u.regs u.ch1.enabled u.sweepClock.sweep u.sweepClock.regs u.sweepClock.ch1.enabled := by
  have htimer : (orEight (sweepPeriod u.regs.nr10)).toNat = periodOr8 (sweepPeriod u.regs.nr10) :=
    orEight_toNat (Nat.mod_lt _ (by decide))
  rcases Nat.lt_or_ge u.sweep.timer.toNat 2 with h | h
  · have hlow : u.sweep.timer.toNat ≤ 1 := by omega
    have hhigh : ¬ 2 ≤ u.sweep.timer.toNat := by omega
    by_cases ha : u.SweepActs
    · by_cases hn : u.newFrequency ≤ 2047
      · by_cases hs : sweepShift u.regs.nr10 = 0
        · rw [Sound.sweepClock_runsOut hlow, if_pos ha, Sound.sweepAct_unshifted (by exact hn) (by exact hs)]
          exact ⟨rfl, rfl, fun h => absurd h hhigh, fun _ => ⟨htimer, fun _ => ⟨rfl, rfl, rfl⟩,
            fun _ h => absurd h (Nat.not_lt.2 hn), fun _ _ _ => ⟨rfl, rfl, rfl⟩, fun _ _ h => absurd hs h⟩⟩
        · obtain ⟨hshadow, h13, h14⟩ := storedFrequency_toNat u.regs.nr14 hn
          rw [Sound.sweepClock_runsOut hlow, if_pos ha, Sound.sweepAct_stores (by exact hn) (by exact hs)]
          exact ⟨rfl, rfl, fun h => absurd h hhigh, fun _ => ⟨htimer, fun h => absurd ha h,
            fun _ h => absurd h (Nat.not_lt.2 hn), fun _ _ h => absurd h hs, fun _ _ _ => ⟨hshadow, rfl, h13, h14, rfl⟩⟩⟩
      · rw [Sound.sweepClock_runsOut hlow, if_pos ha, Sound.sweepAct_over (by exact Nat.not_le.1 hn)]
        exact ⟨rfl, rfl, fun h => absurd h hhigh, fun _ => ⟨htimer, fun h => absurd ha h,
          fun _ _ => ⟨rfl, rfl, rfl⟩, fun _ h => absurd h hn, fun _ h => absurd h hn⟩⟩
    · rw [Sound.sweepClock_runsOut hlow, if_neg ha]
      exact ⟨rfl, rfl, fun h => absurd h hhigh, fun _ => ⟨htimer, fun _ => ⟨rfl, rfl, rfl⟩,
        fun h => absurd h ha, fun h => absurd h ha, fun h => absurd h ha⟩⟩
  · rw [Sound.sweepClock_counts h]
    have hminus : (u.sweep.timer - 1).toNat = u.sweep.timer.toNat - 1 := by bv_omega
    exact ⟨rfl, rfl, fun _ => ⟨hminus, rfl, rfl, rfl⟩, fun hlow => absurd hlow (by omega)⟩

/-! ### The steps (R500, R501) -/

/-- The four lengths of a step, as the statement counts them. -/
theorem Sound.lengthClocks_eq (u : Sound) :
    u.lengthClocks = { u with
      ch1.length := (lengthAfter u.regs.nr14 u.ch1.length u.ch1.enabled).1
      ch1.enabled := (lengthAfter u.regs.nr14 u.ch1.length u.ch1.enabled).2
      ch2.length := (lengthAfter u.regs.nr24 u.ch2.length u.ch2.enabled).1
      ch2.enabled := (lengthAfter u.regs.nr24 u.ch2.length u.ch2.enabled).2
      ch3.length := (lengthAfter u.regs.nr34 u.ch3.length u.ch3.enabled).1
      ch3.enabled := (lengthAfter u.regs.nr34 u.ch3.length u.ch3.enabled).2
      ch4.length := (lengthAfter u.regs.nr44 u.ch4.length u.ch4.enabled).1
      ch4.enabled := (lengthAfter u.regs.nr44 u.ch4.length u.ch4.enabled).2 } := by
  simp only [Sound.lengthClocks, lengthClock_eq]

section
variable {u : Sound}

theorem Sound.frameSequencerStep_off (hp : u.power = false) : u.frameSequencerStep = u :=
  if_neg (by rw [hp]; decide)

/-- With the power on a step is the clocks of its number, and the number moves on. -/
theorem Sound.frameSequencerStep_on (hp : u.power = true) :
    (u.fsStep.toNat = 0 ∨ u.fsStep.toNat = 4 → u.frameSequencerStep = { u.lengthClocks with fsStep := u.fsStep + 1 }) ∧
    (u.fsStep.toNat = 2 ∨ u.fsStep.toNat = 6 →
      u.frameSequencerStep = { u.lengthClocks.sweepClock with fsStep := u.lengthClocks.sweepClock.fsStep + 1 }) ∧
    (u.fsStep.toNat = 1 ∨ u.fsStep.toNat = 3 ∨ u.fsStep.toNat = 5 →
      u.frameSequencerStep = { u with fsStep := u.fsStep + 1 }) ∧
    (u.fsStep.toNat = 7 → u.frameSequencerStep = { u.envelopeClocks with fsStep := u.fsStep + 1 }) := by
  unfold Sound.frameSequencerStep
  refine ⟨?lengths, ?sweep, ?idle, ?envelopes⟩
  case lengths => rintro (h | h) <;> simp [hp, h] <;> rfl
  case sweep => rintro (h | h) <;> simp [hp, h]
  case idle => rintro (h | h | h) <;> simp [hp, h]
  case envelopes =>
    intro h
    simp [hp, h]
    rfl

end

/-- Settles O53: each step by the clocks of its number. -/
theorem frameSequencerSchedule : Obligations.FrameSequencerSchedule := by
  intro u t n r l1 l2 l3 l4 counted
  refine ⟨Sound.frameSequencerStep_off, fun hp => ?_⟩
  obtain ⟨hlengths, hsweep, hidle, henvelopes⟩ := Sound.frameSequencerStep_on hp
  have hcounted : { u.lengthClocks with fsStep := u.fsStep + 1 } = counted := by
    rw [Sound.lengthClocks_eq]
  refine ⟨fun hn => (hlengths hn).trans hcounted, fun hn => ?sweep, hidle, fun hn => ?envelopes⟩
  case sweep =>
    obtain ⟨hframe, hmoves⟩ := u.lengthClocks.sweepClock_spec
    have hl1 : u.lengthClocks.ch1.enabled = l1.2 := by rw [Sound.lengthClocks_eq]
    have ht : t = { u.lengthClocks.sweepClock with fsStep := u.lengthClocks.sweepClock.fsStep + 1 } := hsweep hn
    rw [hl1] at hmoves
    rw [ht, ← hcounted]
    exact ⟨congrArg (fun x : Sound => { x with fsStep := x.fsStep + 1 }) hframe, hmoves⟩
  case envelopes =>
    have hwrap : u.fsStep + 1 = 0 := by bv_omega
    have ht : t = { u.envelopeClocks with fsStep := 0 } := hwrap ▸ henvelopes hn
    rw [ht]
    exact ⟨rfl, envClock_moves .., envClock_moves .., envClock_moves ..⟩

end Sys2Proof.Machine

/-! PROOF. The sound unit's registers (61_timer_and_sound.md R479 to R493): reads, plain writes, the power, and the triggers. -/

namespace Sys2Proof.Machine

open Sys2Proof.Claims

/-! ## Reads (R479) -/

section
variable {s : State}

/-- A sound register reads what the sound unit gives. -/
theorem busRead_sound (off : Nat) {b : Byte} (h : s.sound.read off = some b) (hoff : off < 0x80 := by decide)
    (hmain : mainRegRead s off = none := by rfl) : busRead s (ioAddr off) = b := by
  rw [busRead_ioAddr s off hoff, ioRead, hmain, h]
  rfl

/-- A register whose mask is 0x00 reads its backing byte. -/
theorem busRead_sound_plain (off : Nat) {b : Byte} (h : s.sound.read off = some (b ||| 0x00)) (hoff : off < 0x80 := by decide)
    (hmain : mainRegRead s off = none := by rfl) : busRead s (ioAddr off) = b :=
  (busRead_sound off h hoff hmain).trans BitVec.or_zero

/-- A register whose mask is 0xFF reads 0xFF. -/
theorem busRead_sound_masked (off : Nat) {b : Byte} (h : s.sound.read off = some (b ||| 0xFF)) (hoff : off < 0x80 := by decide)
    (hmain : mainRegRead s off = none := by rfl) : busRead s (ioAddr off) = 0xFF :=
  (busRead_sound off h hoff hmain).trans BitVec.or_allOnes

/-- The wave table reads its cells in any power state (R489). -/
theorem busRead_wave (s : State) {j : Nat} (hj : j < 16) : busRead s (ioAddr (0x30 + j)) = cell .wave s.ram.wave j := by
  have hother : mainRegRead s (0x30 + j) = none ∧ s.sound.read (0x30 + j) = none ∧ s.ppu.read (0x30 + j) = none := by
    interval_cases j <;> exact ⟨rfl, rfl, rfl⟩
  obtain ⟨hmain, hsound, hlcd⟩ := hother
  rw [busRead_ioAddr s (0x30 + j) (by omega), ioRead, hmain, hsound, hlcd, waveRead, if_pos (by omega),
    Nat.add_sub_cancel_left]
  rfl

end

/-! ## Writes (R480 to R489) -/

/-- A write to a sound register goes to the sound unit. -/
theorem busWrite_sound (s : State) (v : Byte) (off : Nat) (h : 0x10 ≤ off ∧ off ≤ 0x26 := by decide) :
    busWrite (ioAddr off) v s = { s with sound := s.sound.write off v } :=
  (busWrite_ioAddr s v off (by omega)).trans (if_pos h)

theorem busWrite_wave (s : State) (v : Byte) {k : Nat} (hk : k < 16) :
    busWrite (ioAddr (0x30 + k)) v s = { s with ram.wave := s.ram.wave.set k v } := by
  rw [busWrite_ioAddr s v (0x30 + k) (by omega)]
  unfold ioWrite
  rw [if_neg (by omega), if_pos (by omega), Nat.add_sub_cancel_left]

theorem Sound.write_on {u : Sound} (hp : u.power = true) (v : Byte) {off : Nat} (h : off ≠ 0x26) :
    u.write off v = u.writeOn off v := by
  rw [Sound.write, if_neg h, if_pos hp]

theorem Sound.write_off {u : Sound} (hp : u.power = false) (v : Byte) {off : Nat} (h : off ≠ 0x26) : u.write off v = u := by
  rw [Sound.write, if_neg h, hp]
  rfl

/-- With the power on a sound register takes its write. -/
theorem busWrite_sound_on {s : State} (hp : s.sound.power = true) (v : Byte) (off : Nat)
    (h : 0x10 ≤ off ∧ off ≤ 0x25 := by decide) :
    busWrite (ioAddr off) v s = { s with sound := s.sound.writeOn off v } := by
  rw [busWrite_sound s v off (by omega), Sound.write_on hp v (by omega)]

theorem dacOn_eq (nrk2 : Byte) : dacOn nrk2 = decide (nrk2.toNat ≥ 8) := decide_eq_decide.2 (by omega)

/-- A write to NRx4 stores seven bits, and without bit 7 that is the whole byte. -/
theorem and_7F_of_clear {v : Byte} (h : v.getLsbD 7 = false) : v &&& 0x7F = v := by
  revert v
  decide

theorem writeNR52_eq (v : Byte) (u : Sound) :
    (u.power = true → v.getLsbD 7 = false → u.writeNR52 v = u.powerOff) ∧
    (u.power = false → v.getLsbD 7 = true → u.writeNR52 v = u.powerOn) ∧
    (u.power = v.getLsbD 7 → u.writeNR52 v = u) := by
  unfold Sound.writeNR52
  cases u.power <;> cases v.getLsbD 7 <;> simp

/-- Settles O52: each register by its read and its write, NR52 by its three cases, the wave table as memory. -/
theorem soundPower : Obligations.SoundPower := by
  intro s v u r reads writes length dac
  obtain ⟨hoff, hon, hsame⟩ := writeNR52_eq v u
  have h52 : busWrite (ioAddr 0x26) v s = { s with sound := u.writeNR52 v } := busWrite_sound s v 0x26
  refine ⟨?reads, fun hp => ?on, fun hp off h1 h2 => ?off, fun hp hv => ?powerOff, fun hp hv => ?powerOn, fun he => ?same,
    fun k hk => ?wave⟩
  case reads =>
    exact ⟨busRead_sound 0x10 rfl, busRead_sound 0x11 rfl, busRead_sound_plain 0x12 rfl, busRead_sound_masked 0x13 rfl,
      busRead_sound 0x14 rfl, busRead_sound 0x16 rfl, busRead_sound_plain 0x17 rfl, busRead_sound_masked 0x18 rfl,
      busRead_sound 0x19 rfl, busRead_sound 0x1A rfl, busRead_sound_masked 0x1B rfl, busRead_sound 0x1C rfl,
      busRead_sound_masked 0x1D rfl, busRead_sound 0x1E rfl, busRead_sound_masked 0x20 rfl, busRead_sound_plain 0x21 rfl,
      busRead_sound_plain 0x22 rfl, busRead_sound 0x23 rfl, busRead_sound_plain 0x24 rfl, busRead_sound_plain 0x25 rfl,
      busRead_sound 0x26 rfl⟩
  case on =>
    have hdac : dacOn v = dac := dacOn_eq v
    have hclear (hv : v.getLsbD 7 = false) :
        u.writeOn 0x14 v = { u with regs.nr14 := v } ∧ u.writeOn 0x19 v = { u with regs.nr24 := v } ∧
        u.writeOn 0x1E v = { u with regs.nr34 := v } ∧ u.writeOn 0x23 v = { u with regs.nr44 := v } := by
      simp only [Sound.writeOn, hv, and_7F_of_clear hv, Bool.false_eq_true, if_false, and_self]
    have hw (off : Nat) (h : 0x10 ≤ off ∧ off ≤ 0x25 := by decide) : writes off (u.writeOn off v) :=
      busWrite_sound_on hp v off h
    rw [← hdac]
    refine ⟨hw 0x10, hw 0x11, hw 0x12, hw 0x13, hw 0x16, hw 0x17, hw 0x18, hw 0x1A, hw 0x1B, hw 0x1C, hw 0x1D, hw 0x20, hw 0x21,
      hw 0x22, hw 0x24, hw 0x25, fun hv => ?_⟩
    obtain ⟨h14, h24, h34, h44⟩ := hclear hv
    rw [← h14, ← h24, ← h34, ← h44]
    exact ⟨hw 0x14, hw 0x19, hw 0x1E, hw 0x23⟩
  case off => rw [busWrite_sound s v off (by omega), Sound.write_off hp v (by omega)]
  case powerOff => exact h52.trans (by rw [hoff hp hv]; rfl)
  case powerOn => exact h52.trans (by rw [hon hp hv]; rfl)
  case same => exact h52.trans (by rw [hsame he])
  case wave =>
    rw [busWrite_wave s v hk]
    refine ⟨rfl, fun j hj => ?_⟩
    rw [busRead_wave _ hj, busRead_wave _ hj]
    by_cases h : j = k
    · rw [if_pos h, h, cell_set_self]
    · rw [if_neg h, cell, Memory.get?_set_of_ne _ v h, cell]

/-! ## The triggers (R483, R490 to R493, R503) -/

/-- The fields of NRx2 that a trigger takes. -/
theorem trigger_envelope (nrk2 : Byte) :
    (envInitial nrk2).toNat = nrk2.toNat / 16 ∧ (orEight (envPeriod nrk2).toNat).toNat = periodOr8 (nrk2.toNat % 8) ∧
    (envelopeOf nrk2).up = nrk2.getLsbD 3 ∧ (envelopeOf nrk2).period.toNat = nrk2.toNat % 8 := by
  refine ⟨?_, orEight_envPeriod nrk2, envelopeOf_up nrk2, envelopeOf_period nrk2⟩
  rw [envInitial, BitVec.extractLsb'_toNat, Nat.shiftRight_eq_div_pow]
  omega

/-- The frequency after a write of `v` to NRx4. -/
theorem freq_written (nrk3 v : Byte) : (freq nrk3 (v &&& 0x7F)).toNat = 256 * (v.toNat % 8) + nrk3.toNat := by
  have hlow : ∀ w : Byte, (w &&& 0x7F).toNat % 8 = w.toNat % 8 := by decide
  rw [freq_toNat, hlow]

theorem pulsePeriod_written (nrk3 v : Byte) :
    pulsePeriod (freq nrk3 (v &&& 0x7F)) = (2048 - (256 * (v.toNat % 8) + nrk3.toNat)) * 4 := by
  rw [pulsePeriod, freq_written]

theorem wavePeriod_written (nrk3 v : Byte) :
    wavePeriod (freq nrk3 (v &&& 0x7F)) = (2048 - (256 * (v.toNat % 8) + nrk3.toNat)) * 2 := by
  rw [wavePeriod, freq_written]

theorem noisePeriod_eq (nr43 : Byte) :
    noisePeriod nr43 = (if nr43.toNat % 8 = 0 then 8 else 16 * (nr43.toNat % 8)) * 2 ^ (nr43.toNat / 16) := by
  have h (n : Nat) : noiseDivisor n = if n = 0 then 8 else 16 * n := by cases n <;> rfl
  rw [noisePeriod, h]

theorem dacOn_iff (nrk2 : Byte) : dacOn nrk2 = true ↔ nrk2.toNat ≥ 8 := by rw [dacOn_eq, decide_eq_true_iff]

section
variable {s : State} (hp : s.sound.power = true) {v : Byte} (hv : v.getLsbD 7 = true)
include hp hv

/-- A write with bit 7 to NRx4 stores seven bits and triggers the channel. -/
theorem busWrite_trigger :
    (busWrite 0xFF14 v s).sound = { s.sound with regs.nr14 := v &&& 0x7F }.trigger1 ∧
    (busWrite 0xFF19 v s).sound = { s.sound with regs.nr24 := v &&& 0x7F }.trigger2 ∧
    (busWrite 0xFF1E v s).sound = { s.sound with regs.nr34 := v &&& 0x7F }.trigger3 ∧
    (busWrite 0xFF23 v s).sound = { s.sound with regs.nr44 := v &&& 0x7F }.trigger4 := by
  have hwrite (off : Nat) (h : 0x10 ≤ off ∧ off ≤ 0x25) : (busWrite (ioAddr off) v s).sound = s.sound.writeOn off v :=
    congrArg State.sound (busWrite_sound_on hp v off h)
  exact ⟨(hwrite 0x14 (by decide)).trans (if_pos hv), (hwrite 0x19 (by decide)).trans (if_pos hv),
    (hwrite 0x1E (by decide)).trans (if_pos hv), (hwrite 0x23 (by decide)).trans (if_pos hv)⟩

end

/-- What a trigger of channel 1 loads, before the enable flag is decided. -/
def Sound.loaded1 (u : Sound) : Sound :=
  { u with
    ch1 := u.ch1.trigger u.regs.nr12 u.regs.nr13 u.regs.nr14
    sweep := {
      shadow := freq u.regs.nr13 u.regs.nr14
      timer := orEight (sweepPeriod u.regs.nr10)
      enabled := decide (sweepPeriod u.regs.nr10 ≠ 0) || decide (sweepShift u.regs.nr10 ≠ 0) } }

/-- The first sweep calculation of a trigger is made and overflows. -/
abbrev Sound.TriggerOverflows (u : Sound) : Prop := sweepShift u.regs.nr10 ≠ 0 ∧ u.loaded1.newFrequency > 2047

/-- A trigger of channel 1 loads, and enables the channel if its DAC is on and the calculation does not overflow. -/
theorem Sound.trigger1_eq (u : Sound) :
    u.trigger1 = { u.loaded1 with ch1.enabled := dacOn u.regs.nr12 && !decide u.TriggerOverflows } := by
  have hcalc : (if sweepShift u.regs.nr10 ≠ 0 then u.loaded1.sweepCalc.2 else u.loaded1) =
      { u.loaded1 with ch1.enabled := !decide u.TriggerOverflows } := by
    by_cases hs : sweepShift u.regs.nr10 ≠ 0
    · by_cases hn : u.loaded1.newFrequency > 2047
      · rw [if_pos hs, Sound.sweepCalc_over hn, decide_eq_true ⟨hs, hn⟩]
        rfl
      · rw [if_pos hs, Sound.sweepCalc_within (Nat.not_lt.1 hn), decide_eq_false fun h => hn h.2]
        rfl
    · rw [if_neg hs, decide_eq_false fun h => hs h.1]
      rfl
  have hdac : u.trigger1 =
      if dacOn u.regs.nr12 then (if sweepShift u.regs.nr10 ≠ 0 then u.loaded1.sweepCalc.2 else u.loaded1)
      else { (if sweepShift u.regs.nr10 ≠ 0 then u.loaded1.sweepCalc.2 else u.loaded1) with ch1.enabled := false } := rfl
  rw [hdac, hcalc]
  cases dacOn u.regs.nr12 <;> rfl

theorem Sound.trigger2_eq (u : Sound) :
    u.trigger2 = { u with
      ch2 := { u.ch2.trigger u.regs.nr22 u.regs.nr23 u.regs.nr24 with enabled := dacOn u.regs.nr22 } } := by
  cases hd : dacOn u.regs.nr22 with
  | false => exact if_neg (ne_true_of_eq_false hd)
  | true => exact if_pos hd

/-- Settles O51: the four channels by what their trigger loads and enables. -/
theorem triggerKeepsANonzeroLength : Obligations.TriggerKeepsANonzeroLength := by
  intro s v hp hv full r frequency f1 overflows enveloped t1 t2 t3 t4
  obtain ⟨h1, h2, h3, h4⟩ := busWrite_trigger hp hv
  rw [Sound.trigger1_eq] at h1
  rw [Sound.trigger2_eq] at h2
  dsimp only [t1, t2, t3, t4]
  rw [h1, h2, h3, h4]
  refine ⟨?channel1, ?channel2, ?channel3, ?channel4⟩
  case channel1 =>
    have hf : (freq r.nr13 (v &&& 0x7F)).toNat = f1 := freq_written r.nr13 v
    refine ⟨rfl, rfl, pulsePeriod_written r.nr13 v, trigger_envelope r.nr12, rfl, hf,
      orEight_toNat (Nat.mod_lt _ (by decide)), Bool.or_eq_true_iff.trans (or_congr decide_eq_true_iff decide_eq_true_iff), ?_⟩
    have hnew : { s.sound with regs.nr14 := v &&& 0x7F }.loaded1.newFrequency = swept f1 r.nr10 :=
      congrArg (swept · r.nr10) hf
    have hover : { s.sound with regs.nr14 := v &&& 0x7F }.TriggerOverflows ↔ overflows := by
      rw [Sound.TriggerOverflows, hnew]
      rfl
    dsimp only
    rw [Bool.and_eq_true, Bool.not_eq_true', decide_eq_false_iff_not, dacOn_iff, hover]
  case channel2 =>
    exact ⟨rfl, rfl, pulsePeriod_written r.nr23 v, trigger_envelope r.nr22, rfl, dacOn_iff r.nr22⟩
  case channel3 =>
    exact ⟨rfl, rfl, wavePeriod_written r.nr33 v, rfl, Iff.rfl⟩
  case channel4 =>
    exact ⟨rfl, rfl, noisePeriod_eq r.nr43, trigger_envelope r.nr42, rfl, dacOn_iff r.nr42⟩

end Sys2Proof.Machine
